-- ==== Sys2Proof/Word.lean ====
section
/-! DEFINITION. The widths every file shares: the 32-bit register, the byte, the 39-bit bus request word
(spec/30_encoding.md R70), the 40-bit frame (spec/10_state.md R33). -/

namespace Sys2Proof

/-- A host register and a bus data word (R53). -/
abbrev Word := BitVec 32

/-- One 8-bit field of a frame (R81); also one byte of a bus request word laid out in bytes. -/
abbrev Byte := BitVec 8

/-- The bus request word BRW[38:0] (R70). -/
abbrev Brw := BitVec 39

/-- FRAME and SHIFT (R32, R33). -/
abbrev Frame := BitVec 40

end Sys2Proof
end

