-- ==== Sys2Proof/Syntax.lean ====
section
/-! DEFINITION. The operations a host performs on the block: one constructor per row of spec/opcode_table.json.
An operand is the field of the bus request word (spec/30_encoding.md R70, R71) that the row leaves open, ignored
bits included, so that an instruction is exactly one word:
`off` is OFF[5:0]; `lo` is OFF[1:0] (ignored, R54); `data` is DATA[31:0]; `cmd` is CMD = DATA[3:0]; `ign` is
DATA[31:4] of a CTRL write (ignored, R71). -/

namespace Sys2Proof

inductive Instr where
  /-- RD: bus read (R160). -/
  | rd (off : BitVec 6) (data : Word)
  /-- NOP: CTRL write, CMD = 0 (R162). -/
  | nop (lo : BitVec 2) (ign : BitVec 28)
  /-- MEASURE: CTRL write, CMD = 1 (R100). -/
  | measure (lo : BitVec 2) (ign : BitVec 28)
  /-- MEASURE_LEGACY: CTRL write, CMD = 2 (R101). -/
  | measureLegacy (lo : BitVec 2) (ign : BitVec 28)
  /-- DECODE: CTRL write, CMD = 3 (R140). -/
  | decode (lo : BitVec 2) (ign : BitVec 28)
  /-- CTRL_RSVD_4_7: CTRL write, reserved CMD 4 to 7 (R161). -/
  | ctrlRsvd47 (lo : BitVec 2) (cmd : BitVec 4) (ign : BitVec 28)
  /-- CTRL_RSVD_8_F: CTRL write, reserved CMD 8 to 15 (R161). -/
  | ctrlRsvd8F (lo : BitVec 2) (cmd : BitVec 4) (ign : BitVec 28)
  /-- WR_STATUS (R163). -/
  | wrStatus (lo : BitVec 2) (data : Word)
  /-- WR_CONFIG (R164). -/
  | wrConfig (lo : BitVec 2) (data : Word)
  /-- WR_FRAME_HI (R166). -/
  | wrFrameHi (lo : BitVec 2) (data : Word)
  /-- WR_FRAME_LO (R167). -/
  | wrFrameLo (lo : BitVec 2) (data : Word)
  /-- WR_HUMIDITY: write to a read-only register (R165), as the five that follow. -/
  | wrHumidity (lo : BitVec 2) (data : Word)
  /-- WR_TEMP_RAW (R165). -/
  | wrTempRaw (lo : BitVec 2) (data : Word)
  /-- WR_TEMPERATURE (R165). -/
  | wrTemperature (lo : BitVec 2) (data : Word)
  /-- WR_CHECKSUM (R165). -/
  | wrChecksum (lo : BitVec 2) (data : Word)
  /-- WR_PROGRESS (R165). -/
  | wrProgress (lo : BitVec 2) (data : Word)
  /-- WR_PARAM (R165). -/
  | wrParam (lo : BitVec 2) (data : Word)
  /-- WR_UNMAPPED_B: write to offset 0x2C (R168), as the four that follow for 0x30 to 0x3C. -/
  | wrUnmappedB (lo : BitVec 2) (data : Word)
  /-- WR_UNMAPPED_C (R168). -/
  | wrUnmappedC (lo : BitVec 2) (data : Word)
  /-- WR_UNMAPPED_D (R168). -/
  | wrUnmappedD (lo : BitVec 2) (data : Word)
  /-- WR_UNMAPPED_E (R168). -/
  | wrUnmappedE (lo : BitVec 2) (data : Word)
  /-- WR_UNMAPPED_F (R168). -/
  | wrUnmappedF (lo : BitVec 2) (data : Word)
deriving DecidableEq, Repr

end Sys2Proof
end

