-- ==== Sys2Proof/WellFormed.lean ====
section
/-! DEFINITION. Which instructions the encoding admits. Every operand has exactly the width of its bits in the bus
request word, so the only relation left to check is that the CMD operand of a reserved-command row lies in the row's
range (spec/opcode_table.json rows CTRL_RSVD_4_7 and CTRL_RSVD_8_F; spec/30_encoding.md R72). -/

namespace Sys2Proof

/-- The instruction is one the encoding has. -/
def Instr.wellFormed : Instr → Bool
  | .ctrlRsvd47 _ cmd _ => 4 ≤ cmd.toNat && cmd.toNat ≤ 7
  | .ctrlRsvd8F _ cmd _ => 8 ≤ cmd.toNat
  | .rd _ _ => true
  | .nop _ _ => true
  | .measure _ _ => true
  | .measureLegacy _ _ => true
  | .decode _ _ => true
  | .wrStatus _ _ => true
  | .wrConfig _ _ => true
  | .wrFrameHi _ _ => true
  | .wrFrameLo _ _ => true
  | .wrHumidity _ _ => true
  | .wrTempRaw _ _ => true
  | .wrTemperature _ _ => true
  | .wrChecksum _ _ => true
  | .wrProgress _ _ => true
  | .wrParam _ _ => true
  | .wrUnmappedB _ _ => true
  | .wrUnmappedC _ _ => true
  | .wrUnmappedD _ _ => true
  | .wrUnmappedE _ _ => true
  | .wrUnmappedF _ _ => true

end Sys2Proof
end

