-- ==== Sys2Proof/Decode.lean ====
section
/-! DEFINITION. From a bus request word to an instruction and back (spec/30_encoding.md R70, R71, R88), the rows of
spec/opcode_table.json as data, and the layout of a word in bytes (log 9). -/

namespace Sys2Proof

/-! ## The fields of a bus request word -/

/-- WE = BRW[38]. -/
def brwWe (w : Brw) : Bool := w.getLsbD 38

/-- OFF[5:0] = BRW[37:32]. -/
def brwOff (w : Brw) : BitVec 6 := w.extractLsb' 32 6

/-- DATA[31:0] = BRW[31:0]. -/
def brwData (w : Brw) : Word := w.extractLsb' 0 32

/-- REG = OFF[5:2], the register selected (R71). -/
def offReg (off : BitVec 6) : BitVec 4 := off.extractLsb' 2 4

/-- OFF[1:0], ignored (R54). -/
def offLow (off : BitVec 6) : BitVec 2 := off.extractLsb' 0 2

/-- CMD = DATA[3:0] of a CTRL write (R71, R72). -/
def dataCmd (data : Word) : BitVec 4 := data.extractLsb' 0 4

/-- DATA[31:4] of a CTRL write, ignored (R71, R72). -/
def dataIgn (data : Word) : BitVec 28 := data.extractLsb' 4 28

/-- BRW = {WE, OFF, DATA} (R70). -/
def brw (we : Bool) (off : BitVec 6) (data : Word) : Brw := BitVec.ofBool we ++ off ++ data

/-! ## The decoder -/

/-- A CTRL write, by its command (R72). -/
def decodeCommand (lo : BitVec 2) (data : Word) : Instr :=
  match (dataCmd data).toNat with
  | 0 => .nop lo (dataIgn data)
  | 1 => .measure lo (dataIgn data)
  | 2 => .measureLegacy lo (dataIgn data)
  | 3 => .decode lo (dataIgn data)
  | 4 | 5 | 6 | 7 => .ctrlRsvd47 lo (dataCmd data) (dataIgn data)
  | _ => .ctrlRsvd8F lo (dataCmd data) (dataIgn data)

/-- A bus write, by the register it selects (R51, R71); REG = 15 is the last arm. -/
def decodeWrite (reg : BitVec 4) (lo : BitVec 2) (data : Word) : Instr :=
  match reg.toNat with
  | 0 => decodeCommand lo data
  | 1 => .wrStatus lo data
  | 2 => .wrConfig lo data
  | 3 => .wrFrameHi lo data
  | 4 => .wrFrameLo lo data
  | 5 => .wrHumidity lo data
  | 6 => .wrTempRaw lo data
  | 7 => .wrTemperature lo data
  | 8 => .wrChecksum lo data
  | 9 => .wrProgress lo data
  | 10 => .wrParam lo data
  | 11 => .wrUnmappedB lo data
  | 12 => .wrUnmappedC lo data
  | 13 => .wrUnmappedD lo data
  | 14 => .wrUnmappedE lo data
  | _ => .wrUnmappedF lo data

/-- Every 39-bit word is an operation (R70: the decoder of BRWs is total). -/
def decode (w : Brw) : Instr :=
  if brwWe w then decodeWrite (offReg (brwOff w)) (offLow (brwOff w)) (brwData w)
  else .rd (brwOff w) (brwData w)

/-! ## The encoder -/

/-- A CTRL write: offset 0x00, CMD in DATA[3:0] (R72). -/
def ctrlWord (lo : BitVec 2) (cmd : BitVec 4) (ign : BitVec 28) : Brw := brw true (0#4 ++ lo) (ign ++ cmd)

/-- A write of the register at offset 4*REG (R71). -/
def writeWord (reg : BitVec 4) (lo : BitVec 2) (data : Word) : Brw := brw true (reg ++ lo) data

/-- The word of a well-formed instruction, from the match values of spec/opcode_table.json. -/
def encode : Instr → Brw
  | .rd off data => brw false off data
  | .nop lo ign => ctrlWord lo 0x0#4 ign
  | .measure lo ign => ctrlWord lo 0x1#4 ign
  | .measureLegacy lo ign => ctrlWord lo 0x2#4 ign
  | .decode lo ign => ctrlWord lo 0x3#4 ign
  | .ctrlRsvd47 lo cmd ign => ctrlWord lo cmd ign
  | .ctrlRsvd8F lo cmd ign => ctrlWord lo cmd ign
  | .wrStatus lo data => writeWord 0x1#4 lo data
  | .wrConfig lo data => writeWord 0x2#4 lo data
  | .wrFrameHi lo data => writeWord 0x3#4 lo data
  | .wrFrameLo lo data => writeWord 0x4#4 lo data
  | .wrHumidity lo data => writeWord 0x5#4 lo data
  | .wrTempRaw lo data => writeWord 0x6#4 lo data
  | .wrTemperature lo data => writeWord 0x7#4 lo data
  | .wrChecksum lo data => writeWord 0x8#4 lo data
  | .wrProgress lo data => writeWord 0x9#4 lo data
  | .wrParam lo data => writeWord 0xA#4 lo data
  | .wrUnmappedB lo data => writeWord 0xB#4 lo data
  | .wrUnmappedC lo data => writeWord 0xC#4 lo data
  | .wrUnmappedD lo data => writeWord 0xD#4 lo data
  | .wrUnmappedE lo data => writeWord 0xE#4 lo data
  | .wrUnmappedF lo data => writeWord 0xF#4 lo data

/-! ## The rows of spec/opcode_table.json -/

/-- One row: its mnemonic, and the bits a word must have under the mask. -/
structure OpcodeRow where
  mnemonic : String
  pattern : Brw
  mask : Brw
deriving DecidableEq, Repr

/-- The word is one of the row's. -/
def OpcodeRow.fits (r : OpcodeRow) (w : Brw) : Bool := w &&& r.mask == r.pattern

/-- RD and the CTRL rows. -/
def opcodeRowsCtrl : List OpcodeRow :=
  [⟨"RD", 0x0#39, 0x4000000000#39⟩,
   ⟨"NOP", 0x4000000000#39, 0x7c0000000f#39⟩,
   ⟨"MEASURE", 0x4000000001#39, 0x7c0000000f#39⟩,
   ⟨"MEASURE_LEGACY", 0x4000000002#39, 0x7c0000000f#39⟩,
   ⟨"DECODE", 0x4000000003#39, 0x7c0000000f#39⟩,
   ⟨"CTRL_RSVD_4_7", 0x4000000004#39, 0x7c0000000c#39⟩,
   ⟨"CTRL_RSVD_8_F", 0x4000000008#39, 0x7c00000008#39⟩]

/-- The writes of the other registers and of the unmapped offsets. -/
def opcodeRowsWrite : List OpcodeRow :=
  [⟨"WR_STATUS", 0x4400000000#39, 0x7c00000000#39⟩,
   ⟨"WR_CONFIG", 0x4800000000#39, 0x7c00000000#39⟩,
   ⟨"WR_FRAME_HI", 0x4c00000000#39, 0x7c00000000#39⟩,
   ⟨"WR_FRAME_LO", 0x5000000000#39, 0x7c00000000#39⟩,
   ⟨"WR_HUMIDITY", 0x5400000000#39, 0x7c00000000#39⟩,
   ⟨"WR_TEMP_RAW", 0x5800000000#39, 0x7c00000000#39⟩,
   ⟨"WR_TEMPERATURE", 0x5c00000000#39, 0x7c00000000#39⟩,
   ⟨"WR_CHECKSUM", 0x6000000000#39, 0x7c00000000#39⟩,
   ⟨"WR_PROGRESS", 0x6400000000#39, 0x7c00000000#39⟩,
   ⟨"WR_PARAM", 0x6800000000#39, 0x7c00000000#39⟩,
   ⟨"WR_UNMAPPED_B", 0x6c00000000#39, 0x7c00000000#39⟩,
   ⟨"WR_UNMAPPED_C", 0x7000000000#39, 0x7c00000000#39⟩,
   ⟨"WR_UNMAPPED_D", 0x7400000000#39, 0x7c00000000#39⟩,
   ⟨"WR_UNMAPPED_E", 0x7800000000#39, 0x7c00000000#39⟩,
   ⟨"WR_UNMAPPED_F", 0x7c00000000#39, 0x7c00000000#39⟩]

/-- The table whole. -/
def opcodeTable : List OpcodeRow := opcodeRowsCtrl ++ opcodeRowsWrite

/-- The mnemonic of an instruction's row. -/
def Instr.mnemonic : Instr → String
  | .rd _ _ => "RD"
  | .nop _ _ => "NOP"
  | .measure _ _ => "MEASURE"
  | .measureLegacy _ _ => "MEASURE_LEGACY"
  | .decode _ _ => "DECODE"
  | .ctrlRsvd47 _ _ _ => "CTRL_RSVD_4_7"
  | .ctrlRsvd8F _ _ _ => "CTRL_RSVD_8_F"
  | .wrStatus _ _ => "WR_STATUS"
  | .wrConfig _ _ => "WR_CONFIG"
  | .wrFrameHi _ _ => "WR_FRAME_HI"
  | .wrFrameLo _ _ => "WR_FRAME_LO"
  | .wrHumidity _ _ => "WR_HUMIDITY"
  | .wrTempRaw _ _ => "WR_TEMP_RAW"
  | .wrTemperature _ _ => "WR_TEMPERATURE"
  | .wrChecksum _ _ => "WR_CHECKSUM"
  | .wrProgress _ _ => "WR_PROGRESS"
  | .wrParam _ _ => "WR_PARAM"
  | .wrUnmappedB _ _ => "WR_UNMAPPED_B"
  | .wrUnmappedC _ _ => "WR_UNMAPPED_C"
  | .wrUnmappedD _ _ => "WR_UNMAPPED_D"
  | .wrUnmappedE _ _ => "WR_UNMAPPED_E"
  | .wrUnmappedF _ _ => "WR_UNMAPPED_F"

/-! ## A word in bytes -/

/-- Why a byte string is no bus request. -/
inductive DecodeError where
  /-- Fewer bytes than a bus request has: a narrower access, which the bus cannot carry (R53, log 7). Safe. -/
  | narrowAccess
  /-- More bytes than a bus request has: there is one length (R70). Safe. -/
  | tooLong
  /-- Bit 39 is set: the word has 39 bits (R70). Safe. -/
  | bit39Set
deriving DecidableEq, Repr

/-- The five bytes of a bus request word, BRW[7:0] first (log 9). -/
def decodeBytes : List Byte → Except DecodeError Instr
  | [b0, b1, b2, b3, b4] =>
    if b4.getLsbD 7 then .error .bit39Set
    else .ok (decode (b4.extractLsb' 0 7 ++ b3 ++ b2 ++ b1 ++ b0))
  | [] | [_] | [_, _] | [_, _, _] | [_, _, _, _] => .error .narrowAccess
  | _ => .error .tooLong

/-- The `n` low bytes of a number, the lowest first. -/
def littleBytes : Nat → Nat → List Byte
  | 0, _ => []
  | n + 1, w => BitVec.ofNat 8 w :: littleBytes n (w / 256)

/-- The five bytes of an instruction's word. -/
def encodeBytes (i : Instr) : List Byte := littleBytes 5 (encode i).toNat

/-- The instruction in a word as the opcode table numbers its bits: at least five bytes are laid out, the bits from
`nbits` up being zero. -/
def decodeTableWord (nbits w : Nat) : Option Instr :=
  match decodeBytes (littleBytes (max 5 ((nbits + 7) / 8)) (w % 2 ^ nbits)) with
  | .ok i => some i
  | .error _ => none

end Sys2Proof
end

