-- ==== Sys2Proof/Config.lean ====
section
/-! DEFINITION. What an implementation fixes and what the environment leaves free: the OPEN parameters of
spec/00_scope.md R7 and the line level of spec/10_state.md R22. The draws have no body, so no proof can see a
value of one (log 2, log 3). -/

namespace Sys2Proof

/-- The three OPEN parameters of R7. They are carried in the machine's state (PARAM shows one of them to the host,
R87) and no step changes them, so a statement about every state is a statement about every value of them (log 3). -/
structure Params where
  /-- `CYCLES_PER_US`, clock cycles per microsecond (D2). -/
  cyclesPerUs : Nat
  /-- `TW`, the width of TCNT (D19). -/
  tw : Nat
  /-- `PW`, the width of PCNT (D19). -/
  pw : Nat
deriving DecidableEq, Repr

/-- A free value: which of the 65535 legal clock rates the chip has (`CYCLES_PER_US` is this plus 1). -/
opaque Config.cyclesDraw : Fin 65535

/-- A free value: how many bits TCNT has above the least legal width. -/
opaque Config.twDraw : Nat

/-- A free value: how many bits PCNT has above the least legal width. -/
opaque Config.pwDraw : Nat

/-- A free value: the level of `pin_in` in a cycle for which the state lists none; the argument is the number of
the cycle (R22, treatment `any value`). -/
opaque Config.freePinIn : Nat → Bool

end Sys2Proof
end

