-- ==== Sys2Proof/Machine/Timing.lean ====
section
/-! DEFINITION. Durations in clock cycles (spec/00_scope.md R7, R8), the legality of the OPEN parameters, the
parameters of the implementation, and the counter step of TCNT. -/

namespace Sys2Proof.Machine

/-- TRIG_CYCLES = 1000 us (R8). -/
def trigCycles (p : Params) : Nat := 1000 * p.cyclesPerUs

/-- BIT_CYCLES = 50 us (R8). -/
def bitCycles (p : Params) : Nat := 50 * p.cyclesPerUs

/-- TIMEOUT_CYCLES = 100 us (R8). -/
def timeoutCycles (p : Params) : Nat := 100 * p.cyclesPerUs

/-- PACE_CYCLES = 1 us (R8). -/
def paceCycles (p : Params) : Nat := p.cyclesPerUs

/-- The greatest value of TCNT, 2^TW - 1 (R30). -/
def tcntMax (p : Params) : Nat := 2 ^ p.tw - 1

/-- The parameters lie in the ranges of R7 (D2, D19). -/
def legalParams (p : Params) : Bool :=
  1 ≤ p.cyclesPerUs && p.cyclesPerUs ≤ 65535
    && trigCycles p - 1 ≤ tcntMax p && timeoutCycles p + 1 ≤ tcntMax p
    && p.cyclesPerUs - 1 ≤ 2 ^ p.pw - 1

/-- The least width w with 2^w - 1 >= n. -/
def leastWidth (n : Nat) : Nat := if n = 0 then 0 else n.log2 + 1

/-- The parameters of the implementation: any legal ones, through the draws of Config (log 3). -/
def implParams : Params :=
  let c := Config.cyclesDraw.val + 1
  { cyclesPerUs := c
    tw := leastWidth (max (1000 * c - 1) (100 * c + 1)) + Config.twDraw
    pw := leastWidth (c - 1) + Config.pwDraw }

/-- TCNT counts up and stays at its greatest value (R30). -/
def tcntNext (p : Params) (t : Nat) : Nat := min (t + 1) (tcntMax p)

end Sys2Proof.Machine
end

