-- ==== Sys2Proof/Machine/State.lean ====
section
/-! DEFINITION. The state of the AM2301 acquisition engine (spec/10_state.md), its outcomes, and reset
(spec/70_reset_and_hazards.md R230). -/

namespace Sys2Proof.Machine

/-- The five states that wait for an edge of the line (R107). -/
inductive EdgeWait where
  /-- PRE_F1: the first preamble falling edge. -/
  | preF1
  /-- PRE_R: the preamble rising edge. -/
  | preR
  /-- PRE_F2: the second preamble falling edge. -/
  | preF2
  /-- BIT_R: the rising edge that starts a data pulse. -/
  | bitR
  /-- BIT_F: the falling edge that ends it. -/
  | bitF
deriving DecidableEq, Repr

/-- The eleven legal values of ST (R25, R78). Codes 11 to 15 are unreachable (R47) and have no constructor: the
model has no step for them (D38, log 6). -/
inductive EngineState where
  | idle
  | trigH0
  | trigOe
  | trigLow
  | trigH1
  | wait (w : EdgeWait)
  | decode
deriving DecidableEq, Repr

/-- The named values of RESULT (R79). Codes 5 to 7 are never produced and have no constructor (log 6). -/
inductive ResultCode where
  | none
  | ok
  | timeout
  | checksum
  /-- Kept in the encoding, never produced (R148). -/
  | invalidFrame
deriving DecidableEq, Repr

/-- The host-side input ports of one clock cycle (R21), the platform's `rst` with them. -/
structure HostPorts where
  rst : Bool
  busValid : Bool
  busWe : Bool
  busAddr : BitVec 6
  busWdata : Word
deriving DecidableEq, Repr

/-- All the spec gives the block, and its inputs still to come. -/
structure State where
  /-- CYCLES_PER_US, TW, PW (R7): no step changes them (log 3). -/
  params : Params
  /-- SYNC[0] (R23). -/
  sync0 : Bool
  /-- SYNC[1], the sampled level s (R23, R24). -/
  sync1 : Bool
  /-- ST (R25). -/
  st : EngineState
  /-- MODE_B: true is timeout-bounded (R27). -/
  modeB : Bool
  /-- PACE_L (R28). -/
  paceL : Bool
  /-- ARM (R29). -/
  arm : Bool
  /-- TCNT, at most 2^TW - 1 (R30). -/
  tcnt : Nat
  /-- PCNT (R31). -/
  pcnt : Nat
  /-- SHIFT (R32). -/
  shift : Frame
  /-- FRAME (R33). -/
  frame : Frame
  /-- BITCNT (R34). -/
  bitcnt : BitVec 6
  /-- HUM, tenths of a percent (R35). -/
  hum : BitVec 16
  /-- TSIGN: true is negative (R36). -/
  tsign : Bool
  /-- TMAG, tenths of a degree (R36). -/
  tmag : BitVec 15
  /-- RXSUM (R37). -/
  rxsum : Byte
  /-- CALCSUM (R37). -/
  calcsum : Byte
  /-- DONE (R38). -/
  done : Bool
  /-- RESULT (R39). -/
  result : ResultCode
  /-- CMDERR (R40). -/
  cmderr : Bool
  /-- CFG_IE (R41). -/
  cfgIe : Bool
  /-- CFG_PACE (R41). -/
  cfgPace : Bool
  /-- TO_STATE: none reads 0 (R42, log 12). -/
  toState : Option EdgeWait
  /-- `bus_rdata` of the cycle just completed (R21, R160, log 4). -/
  busRdata : Word
  /-- The host's ports of the cycles to come, the next one first (R12, log 1). -/
  hostIn : List HostPorts
  /-- `pin_in` of the cycles to come, the next one first (R22, log 2). -/
  lineIn : List Bool
  /-- The model's own: how many cycles have passed, the argument of the free line level (log 2). -/
  cycle : Nat
deriving DecidableEq, Repr

/-- There is no fault state in the block and it has no traps (R200, R219), so no reason to fault. -/
inductive Fault where
deriving DecidableEq, Repr

/-- Why a step is refused. -/
inductive Refusal where
  /-- Raised by no meaning: every row of the opcode table has one. Safe. -/
  | notModelled (mnemonic : String)
  /-- Raised by `step` alone, in a state whose RESULT is INVALID_FRAME: the spec calls such a state unreachable and
  has a model refuse it (R148, R219; log 6). Safe: no run from reset reaches it. -/
  | unreachableResult
deriving DecidableEq, Repr

/-- The state the reset action leaves, for given parameters (R230), with no input listed. -/
def State.resetWith (p : Params) : State where
  params := p
  sync0 := false
  sync1 := false
  st := .idle
  modeB := false
  paceL := false
  arm := false
  tcnt := 0
  pcnt := 0
  shift := 0#40
  frame := 0#40
  bitcnt := 0#6
  hum := 0#16
  tsign := false
  tmag := 0#15
  rxsum := 0#8
  calcsum := 0#8
  done := false
  result := .none
  cmderr := false
  cfgIe := false
  cfgPace := true
  toState := Option.none
  busRdata := 0#32
  hostIn := []
  lineIn := []
  cycle := 0

/-- The machine right after reset (R230, R233). -/
def State.reset : State := State.resetWith implParams

end Sys2Proof.Machine
end

