-- ==== Sys2Proof/Machine/Operands.lean ====
section
/-! DEFINITION. What an operand selects: the register of an offset (spec/20_memory.md R51, R54), the bits of a
written word (spec/30_encoding.md R72 to R76), the numeric codes of ST and RESULT (R78, R79), and the fields of a
frame (R81). -/

namespace Sys2Proof.Machine

/-- A bit as a one-bit vector (R9). -/
def bit (b : Bool) : BitVec 1 := BitVec.ofBool b

/-- The registers of the window (R51). -/
inductive Reg where
  | ctrl
  | status
  | config
  | frameHi
  | frameLo
  | humidity
  | tempRaw
  | temperature
  | checksum
  | progress
  | param
  /-- Offsets 0x2C to 0x3C (R52). -/
  | unmapped
deriving DecidableEq, Repr

/-- The register at offset 4*REG, with REG = OFF[5:2]; OFF[1:0] is ignored (R51, R54, R71). -/
def regAt (off : BitVec 6) : Reg :=
  match (offReg off).toNat with
  | 0 => .ctrl
  | 1 => .status
  | 2 => .config
  | 3 => .frameHi
  | 4 => .frameLo
  | 5 => .humidity
  | 6 => .tempRaw
  | 7 => .temperature
  | 8 => .checksum
  | 9 => .progress
  | 10 => .param
  | _ => .unmapped

/-- The code of an edge wait in ST and TO_STATE (R78). -/
def waitCode : EdgeWait → BitVec 4
  | .preF1 => 5#4
  | .preR => 6#4
  | .preF2 => 7#4
  | .bitR => 8#4
  | .bitF => 9#4

/-- The code of ST, read as PROGRESS.STATE (R78). -/
def stateCode : EngineState → BitVec 4
  | .idle => 0#4
  | .trigH0 => 1#4
  | .trigOe => 2#4
  | .trigLow => 3#4
  | .trigH1 => 4#4
  | .wait w => waitCode w
  | .decode => 10#4

/-- TO_STATE as the host reads it: 0 when no wait timed out (R42). -/
def toStateCode : Option EdgeWait → BitVec 4
  | none => 0#4
  | some w => waitCode w

/-- The code of RESULT (R79). -/
def resultCode : ResultCode → BitVec 3
  | .none => 0#3
  | .ok => 1#3
  | .timeout => 2#3
  | .checksum => 3#3
  | .invalidFrame => 4#3

/-- DATA[1] of a STATUS write: clear DONE (R163). -/
def clrDone (data : Word) : Bool := data.getLsbD 1

/-- DATA[5] of a STATUS write: clear CMDERR (R163). -/
def clrCmderr (data : Word) : Bool := data.getLsbD 5

/-- DATA[0] of a CONFIG write: IE (R164). -/
def dataIe (data : Word) : Bool := data.getLsbD 0

/-- DATA[1] of a CONFIG write: PACE (R164). -/
def dataPace (data : Word) : Bool := data.getLsbD 1

/-- FRAME with bits [39:32] replaced by DATA[7:0] (R166). -/
def frameWithHi (f : Frame) (data : Word) : Frame := data.extractLsb' 0 8 ++ f.extractLsb' 0 32

/-- FRAME with bits [31:0] replaced by DATA (R167). -/
def frameWithLo (f : Frame) (data : Word) : Frame := f.extractLsb' 32 8 ++ data

/-- B0 = FRAME[39:32], humidity_high (R81, R142). -/
def field0 (f : Frame) : Byte := f.extractLsb' 32 8

/-- B1 = FRAME[31:24], humidity_low (R81, R142). -/
def field1 (f : Frame) : Byte := f.extractLsb' 24 8

/-- B2 = FRAME[23:16], temp_high (R81, R142). -/
def field2 (f : Frame) : Byte := f.extractLsb' 16 8

/-- B3 = FRAME[15:8], temp_low (R81, R142). -/
def field3 (f : Frame) : Byte := f.extractLsb' 8 8

/-- B4 = FRAME[7:0], the checksum received (R81, R142). -/
def field4 (f : Frame) : Byte := f.extractLsb' 0 8

end Sys2Proof.Machine
end

