-- ==== Sys2Proof/Machine/Flags.lean ====
section
/-! DEFINITION. The status flags and outputs that are functions of the state: BUSY (spec/10_state.md R26), the
STATUS word (spec/30_encoding.md R73), `irq` (R44, R206), the pin outputs (R43), the physical values (R149) and the
checksum comparison (spec/41_decoder.md R143, R144). -/

namespace Sys2Proof.Machine

/-- BUSY = (ST != IDLE) (R26). -/
def busy (s : State) : Bool := s.st != .idle

/-- `irq` = DONE & CFG_IE (R44, R206). -/
def irq (s : State) : Bool := s.done && s.cfgIe

/-- `pin_oe`: the block drives the line (R43). -/
def pinOe (s : State) : Bool :=
  match s.st with
  | .idle => false
  | .trigH0 => false
  | .trigOe => true
  | .trigLow => true
  | .trigH1 => true
  | .wait _ => false
  | .decode => false

/-- `pin_out`: the level driven (R43). -/
def pinOut (s : State) : Bool :=
  match s.st with
  | .idle => false
  | .trigH0 => true
  | .trigOe => true
  | .trigLow => false
  | .trigH1 => true
  | .wait _ => false
  | .decode => false

/-- The STATUS register: {MODE, LINE, CMDERR, RESULT, DONE, BUSY} (R73, R160). -/
def statusWord (s : State) : Word :=
  0#24 ++ bit s.modeB ++ bit s.sync1 ++ bit s.cmderr ++ resultCode s.result ++ bit s.done ++ bit (busy s)

/-- The humidity in percent, an exact rational (R82, R149). -/
def humidityPercent (s : State) : Rat := (s.hum.toNat : Rat) / 10

/-- The temperature in degrees Celsius, an exact rational: (1 - 2*TSIGN) * TMAG / 10 (R82, R149). -/
def temperatureCelsius (s : State) : Rat := (1 - 2 * (s.tsign.toNat : Rat)) * (s.tmag.toNat : Rat) / 10

/-- The wrapping sum (B0 + B1 + B2 + B3) mod 256 (R143). -/
def wrappingSum (f : Frame) : Byte := field0 f + field1 f + field2 f + field3 f

/-- The frame's checksum matches (R144). -/
def checksumOk (f : Frame) : Bool := wrappingSum f == field4 f

end Sys2Proof.Machine
end

