-- ==== Sys2Proof/Machine/Ops.lean ====
section
/-! DEFINITION. The named operations the meanings and the engine share: reading a register, accepting a command,
entering a wait, ending an operation (`finish`, the block's analogue of taking an exception, spec/60_exceptions.md
R201, R211) and the host's return from it (the acknowledge, R163), and the cycle's inputs and its reset. -/

namespace Sys2Proof.Machine

/-! ## Registers -/

/-- TEMPERATURE: the signed tenths in two's complement (R84). -/
def temperatureWord (s : State) : Word := if s.tsign then 0#32 - s.tmag.setWidth 32 else s.tmag.setWidth 32

/-- `read_value` of R160, by register. -/
def readValue (s : State) : Reg → Word
  | .ctrl => 0#32
  | .status => statusWord s
  | .config => 0#30 ++ bit s.cfgPace ++ bit s.cfgIe
  | .frameHi => 0#24 ++ s.frame.extractLsb' 32 8
  | .frameLo => s.frame.extractLsb' 0 32
  | .humidity => 0#16 ++ s.hum
  | .tempRaw => 0#16 ++ bit s.tsign ++ s.tmag
  | .temperature => temperatureWord s
  | .checksum => 0#16 ++ s.calcsum ++ s.rxsum
  | .progress => 0#16 ++ toStateCode s.toState ++ stateCode s.st ++ 0#2 ++ s.bitcnt
  | .param => 0#16 ++ BitVec.ofNat 16 s.params.cyclesPerUs
  | .unmapped => 0#32

/-! ## The end of an operation, and the host's return from it -/

/-- `finish(code)` (R201). -/
def finish (code : ResultCode) (h : State) : State := { h with result := code, done := true, st := .idle }

/-- A STATUS write (R163): a 1 clears DONE or CMDERR. -/
def acknowledge (data : Word) (s : State) : State :=
  { s with done := s.done && !clrDone data, cmderr := s.cmderr && !clrCmderr data }

/-! ## Commands -/

/-- An ignored command leaves only CMDERR (R161, R209). -/
def ignoreCommand (s : State) : State := { s with cmderr := true }

/-- What every accepted command other than NOP does: DONE <- 0, RESULT <- NONE, TO_STATE <- 0 (R100, R101, R140). -/
def clearResult (s : State) : State := { s with done := false, result := .none, toState := none }

/-- Acceptance of MEASURE (`bounded` = true, R100) or MEASURE_LEGACY (false, R101). -/
def acceptAcquisition (bounded : Bool) (s : State) : State :=
  { clearResult s with
    modeB := bounded, paceL := s.cfgPace, shift := 0#40, bitcnt := 0#6, tcnt := 0, st := .trigH0 }

/-- Acceptance of DECODE (R140). -/
def acceptDecode (s : State) : State := { clearResult s with st := .decode }

/-- A command other than NOP is accepted only when ST = IDLE (R161). -/
def command (accept : State → State) (s : State) : State :=
  if s.st = .idle then accept s else ignoreCommand s

/-! ## Writes of FRAME -/

/-- FRAME takes a host's write only while ST = IDLE (R166, R167). -/
def hostWriteFrame (f : Frame) (s : State) : State := if s.st = .idle then { s with frame := f } else s

/-! ## Edge waits -/

/-- `enter_wait(W)` (R108). -/
def enterWait (w : EdgeWait) (h : State) : State := { h with st := .wait w, tcnt := 0, arm := false, pcnt := 0 }

/-! ## One clock cycle -/

/-- The host's ports when it presents nothing. -/
def idlePorts : HostPorts := ⟨false, false, false, 0#6, 0#32⟩

/-- The host's ports of this cycle; when none is listed nothing is presented and `rst` = 0 (log 1). -/
def State.ports (s : State) : HostPorts :=
  match s.hostIn with
  | p :: _ => p
  | [] => idlePorts

/-- `pin_in` of this cycle; when none is listed it is a free value (R22, log 2). -/
def State.pinIn (s : State) : Bool :=
  match s.lineIn with
  | b :: _ => b
  | [] => Config.freePinIn s.cycle

/-- The bus request on a cycle's ports, if there is one (R70). -/
def portsRequest (p : HostPorts) : Option Brw :=
  if p.busValid then some (brw p.busWe p.busAddr p.busWdata) else none

/-- The ports that present a bus request. -/
def requestPorts (w : Brw) : HostPorts := ⟨false, true, brwWe w, brwOff w, brwData w⟩

/-- The inputs of this cycle are used up. -/
def consumeInputs (h : State) : State :=
  { h with hostIn := h.hostIn.tail, lineIn := h.lineIn.tail, cycle := h.cycle + 1 }

/-- SYNC[0] <- pin_in; SYNC[1] <- SYNC[0] (R23); `s` is the state at the start of the cycle. -/
def synchronize (s h : State) : State := { h with sync0 := s.pinIn, sync1 := s.sync0 }

/-- `bus_rdata` = 0 unless the cycle's operation is a read (R160, R169). -/
def beginCycle (s : State) : State := { s with busRdata := 0#32 }

/-- A cycle with `rst` = 1: only the reset action (R230); the parameters stand, and the cycle's inputs are used up. -/
def resetCycle (s : State) : State :=
  { State.resetWith s.params with hostIn := s.hostIn.tail, lineIn := s.lineIn.tail, cycle := s.cycle + 1 }

/-- RESULT is INVALID_FRAME, which no rule produces (R148, R219). -/
def resultUnreachable (s : State) : Bool := s.result == .invalidFrame

end Sys2Proof.Machine
end

