-- ==== Sys2Proof/Machine/Command.lean ====
section
/-! DEFINITION. The meanings of the CTRL writes (spec/42_register_access.md R161, R162; spec/40_acquisition.md R100,
R101; spec/41_decoder.md R140). DATA[31:4] and OFF[1:0] are ignored. -/

namespace Sys2Proof.Machine

/-- NOP: nothing, in any state (R162). -/
def execNop (_lo : BitVec 2) (_ign : BitVec 28) (s : State) : Host.Outcome State Fault Refusal := .next s

/-- MEASURE (R100, R161). -/
def execMeasure (_lo : BitVec 2) (_ign : BitVec 28) (s : State) : Host.Outcome State Fault Refusal :=
  .next (command (acceptAcquisition true) s)

/-- MEASURE_LEGACY (R101, R161). -/
def execMeasureLegacy (_lo : BitVec 2) (_ign : BitVec 28) (s : State) : Host.Outcome State Fault Refusal :=
  .next (command (acceptAcquisition false) s)

/-- DECODE (R140, R161). -/
def execDecode (_lo : BitVec 2) (_ign : BitVec 28) (s : State) : Host.Outcome State Fault Refusal :=
  .next (command acceptDecode s)

/-- A reserved command 4 to 7: ignored even when IDLE, CMDERR <- 1 (R161). -/
def execCtrlRsvd47 (_lo : BitVec 2) (_cmd : BitVec 4) (_ign : BitVec 28) (s : State) :
    Host.Outcome State Fault Refusal :=
  .next (ignoreCommand s)

/-- A reserved command 8 to 15: ignored even when IDLE, CMDERR <- 1 (R161). -/
def execCtrlRsvd8F (_lo : BitVec 2) (_cmd : BitVec 4) (_ign : BitVec 28) (s : State) :
    Host.Outcome State Fault Refusal :=
  .next (ignoreCommand s)

end Sys2Proof.Machine
end

