-- ==== Sys2Proof/Machine/HostRead.lean ====
section
/-! DEFINITION. The meaning of RD (spec/42_register_access.md R160). A meaning is the effect of the host's operation
alone, on the state at the start of the cycle; `step` adds the engine's rule of the same cycle (log 5). -/

namespace Sys2Proof.Machine

/-- RD: `bus_rdata` = read_value(4*REG); nothing else changes (R57, R160). -/
def execRd (off : BitVec 6) (_data : Word) (s : State) : Host.Outcome State Fault Refusal :=
  .next { s with busRdata := readValue s (regAt off) }

end Sys2Proof.Machine
end

