-- ==== Sys2Proof/Machine/HostWrite.lean ====
section
/-! DEFINITION. The meanings of the writes of the other registers (spec/42_register_access.md R163 to R168). OFF[1:0]
is ignored. -/

namespace Sys2Proof.Machine

/-- WR_STATUS (R163). -/
def execWrStatus (_lo : BitVec 2) (data : Word) (s : State) : Host.Outcome State Fault Refusal :=
  .next (acknowledge data s)

/-- WR_CONFIG, in any state (R164). -/
def execWrConfig (_lo : BitVec 2) (data : Word) (s : State) : Host.Outcome State Fault Refusal :=
  .next { s with cfgIe := dataIe data, cfgPace := dataPace data }

/-- WR_FRAME_HI (R166). -/
def execWrFrameHi (_lo : BitVec 2) (data : Word) (s : State) : Host.Outcome State Fault Refusal :=
  .next (hostWriteFrame (frameWithHi s.frame data) s)

/-- WR_FRAME_LO (R167). -/
def execWrFrameLo (_lo : BitVec 2) (data : Word) (s : State) : Host.Outcome State Fault Refusal :=
  .next (hostWriteFrame (frameWithLo s.frame data) s)

/-- WR_HUMIDITY: read-only, ignored (R165). -/
def execWrHumidity (_lo : BitVec 2) (_data : Word) (s : State) : Host.Outcome State Fault Refusal := .next s

/-- WR_TEMP_RAW: read-only, ignored (R165). -/
def execWrTempRaw (_lo : BitVec 2) (_data : Word) (s : State) : Host.Outcome State Fault Refusal := .next s

/-- WR_TEMPERATURE: read-only, ignored (R165). -/
def execWrTemperature (_lo : BitVec 2) (_data : Word) (s : State) : Host.Outcome State Fault Refusal := .next s

/-- WR_CHECKSUM: read-only, ignored (R165). -/
def execWrChecksum (_lo : BitVec 2) (_data : Word) (s : State) : Host.Outcome State Fault Refusal := .next s

/-- WR_PROGRESS: read-only, ignored (R165). -/
def execWrProgress (_lo : BitVec 2) (_data : Word) (s : State) : Host.Outcome State Fault Refusal := .next s

/-- WR_PARAM: read-only, ignored (R165). -/
def execWrParam (_lo : BitVec 2) (_data : Word) (s : State) : Host.Outcome State Fault Refusal := .next s

/-- WR_UNMAPPED_B, offset 0x2C: ignored (R168). -/
def execWrUnmappedB (_lo : BitVec 2) (_data : Word) (s : State) : Host.Outcome State Fault Refusal := .next s

/-- WR_UNMAPPED_C, offset 0x30: ignored (R168). -/
def execWrUnmappedC (_lo : BitVec 2) (_data : Word) (s : State) : Host.Outcome State Fault Refusal := .next s

/-- WR_UNMAPPED_D, offset 0x34: ignored (R168). -/
def execWrUnmappedD (_lo : BitVec 2) (_data : Word) (s : State) : Host.Outcome State Fault Refusal := .next s

/-- WR_UNMAPPED_E, offset 0x38: ignored (R168). -/
def execWrUnmappedE (_lo : BitVec 2) (_data : Word) (s : State) : Host.Outcome State Fault Refusal := .next s

/-- WR_UNMAPPED_F, offset 0x3C: ignored (R168). -/
def execWrUnmappedF (_lo : BitVec 2) (_data : Word) (s : State) : Host.Outcome State Fault Refusal := .next s

end Sys2Proof.Machine
end

