-- ==== Sys2Proof/Machine/Dispatch.lean ====
section
/-! DEFINITION. The effect of each operation of spec/opcode_table.json on the state at the start of its cycle. -/

namespace Sys2Proof.Machine

def exec (i : Instr) (s : State) : Host.Outcome State Fault Refusal :=
  match i with
  | .rd off data => Sys2Proof.Machine.execRd off data s
  | .nop lo ign => Sys2Proof.Machine.execNop lo ign s
  | .measure lo ign => Sys2Proof.Machine.execMeasure lo ign s
  | .measureLegacy lo ign => Sys2Proof.Machine.execMeasureLegacy lo ign s
  | .decode lo ign => Sys2Proof.Machine.execDecode lo ign s
  | .ctrlRsvd47 lo cmd ign => Sys2Proof.Machine.execCtrlRsvd47 lo cmd ign s
  | .ctrlRsvd8F lo cmd ign => Sys2Proof.Machine.execCtrlRsvd8F lo cmd ign s
  | .wrStatus lo data => Sys2Proof.Machine.execWrStatus lo data s
  | .wrConfig lo data => Sys2Proof.Machine.execWrConfig lo data s
  | .wrFrameHi lo data => Sys2Proof.Machine.execWrFrameHi lo data s
  | .wrFrameLo lo data => Sys2Proof.Machine.execWrFrameLo lo data s
  | .wrHumidity lo data => Sys2Proof.Machine.execWrHumidity lo data s
  | .wrTempRaw lo data => Sys2Proof.Machine.execWrTempRaw lo data s
  | .wrTemperature lo data => Sys2Proof.Machine.execWrTemperature lo data s
  | .wrChecksum lo data => Sys2Proof.Machine.execWrChecksum lo data s
  | .wrProgress lo data => Sys2Proof.Machine.execWrProgress lo data s
  | .wrParam lo data => Sys2Proof.Machine.execWrParam lo data s
  | .wrUnmappedB lo data => Sys2Proof.Machine.execWrUnmappedB lo data s
  | .wrUnmappedC lo data => Sys2Proof.Machine.execWrUnmappedC lo data s
  | .wrUnmappedD lo data => Sys2Proof.Machine.execWrUnmappedD lo data s
  | .wrUnmappedE lo data => Sys2Proof.Machine.execWrUnmappedE lo data s
  | .wrUnmappedF lo data => Sys2Proof.Machine.execWrUnmappedF lo data s

end Sys2Proof.Machine
end

