-- ==== Sys2Proof/Machine/EdgeWait.lean ====
section
/-! DEFINITION. The edge wait: phases, pacing, timeout, completion, classification and capture
(spec/40_acquisition.md R107 to R117). As in Trigger.lean, `s` is the state at the start of the cycle and `h` the
state the cycle's writes go into. -/

namespace Sys2Proof.Machine

/-- The target level L of a wait: a falling edge ends low, a rising edge high (R107). -/
def targetLevel : EdgeWait → Bool
  | .preF1 => false
  | .preR => true
  | .preF2 => false
  | .bitR => true
  | .bitF => false

/-- `paced`: phase 1 of a falling-edge wait in unbounded mode with PACE_L = 1 (R109, R111; C1, C5). -/
def paced (w : EdgeWait) (s : State) : Bool := !targetLevel w && !s.modeB && s.paceL && !s.arm

/-- `sample`: the line is read in this cycle (R109, R110). -/
def samples (w : EdgeWait) (s : State) : Bool := !paced w s || s.pcnt == 0

/-- `complete`: phase 2 sees the target level (R109). -/
def completes (w : EdgeWait) (s : State) : Bool := samples w s && s.arm && s.sync1 == targetLevel w

/-- `arm_now`: phase 1 sees the opposite level (R109). -/
def armsNow (w : EdgeWait) (s : State) : Bool := samples w s && !s.arm && s.sync1 != targetLevel w

/-- A bounded wait has passed its bound (R109, R112). -/
def timesOut (s : State) : Bool := s.modeB && decide (s.tcnt > timeoutCycles s.params)

/-- The classification of the pulse that ends in this cycle: width = TCNT + 1 > BIT_CYCLES (R116). -/
def classifiedBit (s : State) : Bool := decide (s.tcnt ≥ bitCycles s.params)

/-- {SHIFT[38:0], b} (R32, R117). -/
def shiftedIn (f : Frame) (b : Bool) : Frame := f.extractLsb' 0 39 ++ bit b

/-- The capture of a classified bit (R117). -/
def captureBit (s h : State) : State :=
  let shift' := shiftedIn s.shift (classifiedBit s)
  let h' := { h with shift := shift', bitcnt := s.bitcnt + 1#6 }
  if s.bitcnt.toNat + 1 = 40 then { h' with frame := shift', st := .decode } else enterWait .bitR h'

/-- `on_complete(W)` (R113, R114, R115). -/
def waitComplete (w : EdgeWait) (s h : State) : State :=
  match w with
  | .preF1 => enterWait .preR h
  | .preR => enterWait .preF2 h
  | .preF2 => enterWait .bitR h
  | .bitR => enterWait .bitF h
  | .bitF => captureBit s h

/-- `timeout(W)` (R112). -/
def waitTimeout (w : EdgeWait) (h : State) : State := finish .timeout { h with toState := some w }

/-- A cycle that neither completes the wait nor times it out (R109). -/
def waitContinue (w : EdgeWait) (s h : State) : State :=
  { h with
    tcnt := tcntNext s.params s.tcnt
    arm := if armsNow w s then true else s.arm
    pcnt := if paced w s then (if s.pcnt = 0 then paceCycles s.params - 1 else s.pcnt - 1) else s.pcnt }

/-- The step of an edge wait: completion before timeout (R109). -/
def edgeWaitStep (w : EdgeWait) (s h : State) : State :=
  if completes w s then waitComplete w s h
  else if timesOut s then waitTimeout w h
  else waitContinue w s h

end Sys2Proof.Machine
end

