-- ==== Sys2Proof/Machine/FrameDecoder.lean ====
section
/-! DEFINITION. The decode step of spec/41_decoder.md R141 to R148. -/

namespace Sys2Proof.Machine

/-- HUM <- {B0, B1} (R145). -/
def frameHum (f : Frame) : BitVec 16 := field0 f ++ field1 f

/-- TSIGN <- B2[7] (R146). -/
def frameTsign (f : Frame) : Bool := (field2 f).getLsbD 7

/-- TMAG <- {B2[6:0], B3} (R146). -/
def frameTmag (f : Frame) : BitVec 15 := (field2 f).extractLsb' 0 7 ++ field3 f

/-- RXSUM <- B4, CALCSUM <- sum, on every decode (R144). -/
def recordSums (f : Frame) (h : State) : State := { h with rxsum := field4 f, calcsum := wrappingSum f }

/-- HUM, TSIGN and TMAG, on a match (R145, R146). -/
def recordMeasurement (f : Frame) (h : State) : State :=
  { h with hum := frameHum f, tsign := frameTsign f, tmag := frameTmag f }

/-- DECODE, one cycle (R141, R147). -/
def decodeStep (s h : State) : State :=
  if checksumOk s.frame then finish .ok (recordMeasurement s.frame (recordSums s.frame h))
  else finish .checksum (recordSums s.frame h)

end Sys2Proof.Machine
end

