-- ==== Sys2Proof/Machine/Trigger.lean ====
section
/-! DEFINITION. The trigger sequence of spec/40_acquisition.md R102 to R105. A state rule reads the state `s` at the
start of the cycle and writes into `h`, the same state with the writes of the host's operation of that cycle
(spec/00_scope.md R10, spec/42_register_access.md R169; log 5). -/

namespace Sys2Proof.Machine

/-- TRIG_H0: drive the pin high (R102). -/
def trigH0Step (h : State) : State := { h with st := .trigOe }

/-- TRIG_OE: switch it to output (R103). -/
def trigOeStep (h : State) : State := { h with tcnt := 0, st := .trigLow }

/-- TRIG_LOW: hold low for TRIG_CYCLES cycles (R104). -/
def trigLowStep (s h : State) : State :=
  if s.tcnt = trigCycles s.params - 1 then { h with st := .trigH1 }
  else { h with tcnt := tcntNext s.params s.tcnt }

/-- TRIG_H1: drive high again; the pin becomes an input in the next cycle (R105). -/
def trigH1Step (h : State) : State := enterWait .preF1 h

end Sys2Proof.Machine
end

