-- ==== Sys2Proof/Machine/Engine.lean ====
section
/-! DEFINITION. The engine's one state rule of a cycle (spec/40_acquisition.md R127) and the clock edge that joins it
to the host's operation of the same cycle (spec/42_register_access.md R169). -/

namespace Sys2Proof.Machine

/-- The state rule selected by ST at the start of the cycle; IDLE writes nothing (R127). The writes go over those of
the host's operation, so `finish` setting DONE wins over a STATUS write clearing it (R210). -/
def engineStep (s h : State) : State :=
  match s.st with
  | .idle => h
  | .trigH0 => trigH0Step h
  | .trigOe => trigOeStep h
  | .trigLow => trigLowStep s h
  | .trigH1 => trigH1Step h
  | .wait w => edgeWaitStep w s h
  | .decode => decodeStep s h

/-- The rest of the cycle: the engine's rule, the synchronizer, and the inputs used up. `s` is the state at the start
of the cycle, `h` the state the host's operation leaves (log 5). -/
def clockEdge (s h : State) : State := consumeInputs (synchronize s (engineStep s h))

end Sys2Proof.Machine
end

