-- ==== Sys2Proof/Machine/Step.lean ====
section
/-! DEFINITION. One rising edge of `clk` (spec/42_register_access.md R169; spec/00_scope.md R11), and how an
operation is put where the next step finds it. -/

namespace Sys2Proof.Machine

/-- A cycle with `rst` = 0 and the host's request, if any (R169). -/
def runCycle (s : State) (req : Option Brw) : Host.Outcome State Fault Refusal :=
  match req with
  | none => .next (clockEdge s (beginCycle s))
  | some w =>
    match exec (decode w) (beginCycle s) with
    | .next h => .next (clockEdge s h)
    | .fault f => .fault f
    | .refused r => .refused r

/-- One clock cycle: `rst` first (R210), then the whole cycle of R169. A state with the unreachable RESULT 4 is
refused (R219, log 6). -/
def step (s : State) : Host.Outcome State Fault Refusal :=
  if s.ports.rst then .next (resetCycle s)
  else if resultUnreachable s then .refused .unreachableResult
  else runCycle s (portsRequest s.ports)

/-- The operation with the bits of `w` is what the host presents in the next cycle, with `rst` = 0 (log 8). -/
def State.withFetchWord (s : State) (nbits w : Nat) : State :=
  { s with hostIn := requestPorts (BitVec.ofNat 39 (w % 2 ^ nbits)) :: s.hostIn.tail }

end Sys2Proof.Machine
end

