-- ==== Sys2Proof/Machine/HostSyntax.lean ====
section
/-! DEFINITION. The host program forms of spec/30_encoding.md R89: their expansions into bus cycles, the line stimulus,
and a host that plays a program against the machine (log 15). Nothing of the block's step depends on this file. -/

namespace Sys2Proof.Machine

/-- A line of a host program (R89). -/
inductive HostForm where
  /-- `WR off, value`. -/
  | wr (off value : Nat)
  /-- `RD off`, or `RD off -> value`; the stated value is an annotation, not part of the operation. -/
  | rd (off : Nat) (stated : Option Nat)
  /-- `WAIT n`. -/
  | wait (n : Nat)
  | measure
  | measureLegacy
  | decode
  /-- `LOAD_FRAME v`. -/
  | loadFrame (v : Nat)
  /-- `POLL off, mask, val`. -/
  | poll (off mask val : Nat)
  | waitDone
  | ack
  | ackErr
deriving DecidableEq, Repr

/-- The numbers of a form fit the fields they are written into: a 6-bit offset, 32-bit data, a 40-bit frame. -/
def HostForm.wellFormed : HostForm → Bool
  | .wr off value => off < 64 && value < 2 ^ 32
  | .rd off stated => off < 64 && (stated.getD 0) < 2 ^ 32
  | .wait _ => true
  | .measure => true
  | .measureLegacy => true
  | .decode => true
  | .loadFrame v => v < 2 ^ 40
  | .poll off mask val => off < 64 && mask < 2 ^ 32 && val < 2 ^ 32
  | .waitDone => true
  | .ack => true
  | .ackErr => true

/-- The forms that are not pseudo-instructions; POLL repeats a read, so how many cycles it takes is the run's. -/
inductive BusForm where
  | wr (off : BitVec 6) (value : Word)
  | rd (off : BitVec 6)
  | wait (n : Nat)
  | poll (off : BitVec 6) (mask val : Word)
deriving DecidableEq, Repr

/-- `WR off, value` from numbers. -/
def busWr (off value : Nat) : BusForm := .wr (BitVec.ofNat 6 off) (BitVec.ofNat 32 value)

/-- `POLL off, mask, val` from numbers. -/
def busPoll (off mask val : Nat) : BusForm := .poll (BitVec.ofNat 6 off) (BitVec.ofNat 32 mask) (BitVec.ofNat 32 val)

/-- The expansion table of R89. -/
def HostForm.expand : HostForm → List BusForm
  | .wr off value => [busWr off value]
  | .rd off _ => [.rd (BitVec.ofNat 6 off)]
  | .wait n => [.wait n]
  | .measure => [busWr 0x00 0x1]
  | .measureLegacy => [busWr 0x00 0x2]
  | .decode => [busWr 0x00 0x3]
  | .loadFrame v => [busWr 0x0C (v / 2 ^ 32), busWr 0x10 (v % 2 ^ 32)]
  | .poll off mask val => [busPoll off mask val]
  | .waitDone => [busPoll 0x04 0x2 0x2]
  | .ack => [busWr 0x04 0x2]
  | .ackErr => [busWr 0x04 0x20]

/-! ## The line stimulus -/

/-- `LINE @t: v1 x n1, v2 x n2, ...` (R89): the start cycle t, and each level with the number of its cycles. -/
structure LineStimulus where
  start : Nat
  segments : List (Bool × Nat)
deriving DecidableEq, Repr

/-- The levels of the segments, cycle by cycle. -/
def lineLevels (segments : List (Bool × Nat)) : List Bool := segments.flatMap fun seg => List.replicate seg.2 seg.1

/-- `pin_in` of cycle `c` under one stimulus: not stated before its start; the segments from there; after the last one
the last level, for ever (R89). -/
def LineStimulus.levelAt (line : LineStimulus) (c : Nat) : Option Bool :=
  if c < line.start then none
  else
    match (lineLevels line.segments)[c - line.start]? with
    | some level => some level
    | none => (lineLevels line.segments).getLast?

/-- `pin_in` of cycle `c` under the LINE forms of a program: the last written of those that state it (log 15). -/
def lineAt : List LineStimulus → Nat → Option Bool
  | [], _ => none
  | line :: later, c =>
    match lineAt later c with
    | some level => some level
    | none => line.levelAt c

/-! ## A host that plays a program -/

/-- The ports of `WR off, value`: BRW = {1, off, value}. -/
def wrPorts (off : BitVec 6) (value : Word) : HostPorts := requestPorts (brw true off value)

/-- The ports of `RD off`. -/
def rdPorts (off : BitVec 6) : HostPorts := requestPorts (brw false off 0#32)

/-- `pin_in` of this cycle is the level stated; where none is stated it stays as the state has it. -/
def State.withLine (level : Option Bool) (s : State) : State :=
  match level with
  | some b => { s with lineIn := b :: s.lineIn.tail }
  | none => s

/-- One cycle in which the host presents these ports and the line has the level stated; the host's cycles already listed
come after it. -/
def presentCycle (p : HostPorts) (level : Option Bool) (s : State) : Host.Outcome State Fault Refusal :=
  step { s.withLine level with hostIn := p :: s.hostIn }

/-- A POLL is over when the masked read data is the value (R89). -/
def pollDone (mask val : Word) (t : State) : Bool := t.busRdata &&& mask == val

/-- A host that plays a program from its cycle `c` on, at most `fuel` moves, with the line as the stimuli say: a move is
one bus cycle, or the end of a WAIT. -/
def playProgram (lines : List LineStimulus) : Nat → Nat → List BusForm → State → Host.Outcome State Fault Refusal
  | 0, _, _, s => .next s
  | _ + 1, _, [], s => .next s
  | fuel + 1, c, form :: rest, s =>
    match form with
    | .wr off value => continueWith (playProgram lines fuel (c + 1) rest) (presentCycle (wrPorts off value) (lineAt lines c) s)
    | .rd off => continueWith (playProgram lines fuel (c + 1) rest) (presentCycle (rdPorts off) (lineAt lines c) s)
    | .wait 0 => playProgram lines fuel c rest s
    | .wait (n + 1) =>
      continueWith (playProgram lines fuel (c + 1) (.wait n :: rest)) (presentCycle idlePorts (lineAt lines c) s)
    | .poll off mask val =>
      continueWith (fun t => if pollDone mask val t then playProgram lines fuel (c + 1) rest t
        else playProgram lines fuel (c + 1) (.poll off mask val :: rest) t)
        (presentCycle (rdPorts off) (lineAt lines c) s)
where
  /-- The rest of the program, from the state a cycle leaves. -/
  continueWith (k : State → Host.Outcome State Fault Refusal) :
      Host.Outcome State Fault Refusal → Host.Outcome State Fault Refusal
    | .next t => k t
    | .fault f => .fault f
    | .refused r => .refused r

end Sys2Proof.Machine
end

