-- ==== Sys2Proof/Safety.lean ====
section
/-! DEFINITION. The terms the statements are made in: runs, what the host and the line can observe, and the invariant
of the block. -/

namespace Sys2Proof.Machine

/-- The state after `n` cycles, if none of them is refused. -/
def runFor : Nat → State → Host.Outcome State Fault Refusal
  | 0, s => .next s
  | n + 1, s =>
    match step s with
    | .next t => runFor n t
    | .fault f => .fault f
    | .refused r => .refused r

/-- The state in the first cycle with ST = IDLE after this one, if it comes within `n` cycles: the end of the operation
that runs. -/
def endOfOperation : Nat → State → Option State
  | 0, _ => none
  | n + 1, s =>
    match step s with
    | .next t => if t.st = .idle then some t else endOfOperation n t
    | .fault _ => none
    | .refused _ => none

/-- This cycle has `rst` = 0 and the state is not one the spec has a model refuse (R219). -/
abbrev Runs (s : State) : Prop := s.ports.rst = false ∧ s.result ≠ .invalidFrame

/-- `rst` = 0 in each of the next `n` cycles. -/
abbrev NoReset (n : Nat) (s : State) : Prop := ∀ p ∈ s.hostIn.take n, p.rst = false

/-- The host presents this operation in this cycle. -/
abbrev Presents (s : State) (i : Instr) : Prop := portsRequest s.ports = some (encode i)

/-- The host presents no operation in this cycle. -/
abbrev PresentsNothing (s : State) : Prop := portsRequest s.ports = none

/-- An operation finishes in this cycle (R201): the decode step runs, or an edge wait times out. -/
abbrev Finishes (s : State) : Prop :=
  s.st = .decode ∨ ∃ w, s.st = .wait w ∧ completes w s = false ∧ timesOut s = true

/-- A command other than NOP is accepted in this cycle (R161). -/
abbrev Accepts (s : State) : Prop :=
  s.st = .idle ∧ ∃ lo ign, Presents s (.measure lo ign) ∨ Presents s (.measureLegacy lo ign) ∨ Presents s (.decode lo ign)

/-- A command other than NOP is ignored in this cycle (R161). -/
abbrev IgnoresCommand (s : State) : Prop :=
  (s.st ≠ .idle ∧ ∃ lo ign, Presents s (.measure lo ign) ∨ Presents s (.measureLegacy lo ign) ∨ Presents s (.decode lo ign))
    ∨ ∃ lo cmd ign, (4 ≤ cmd.toNat ∧ cmd.toNat ≤ 7 ∧ Presents s (.ctrlRsvd47 lo cmd ign))
        ∨ (8 ≤ cmd.toNat ∧ Presents s (.ctrlRsvd8F lo cmd ign))

/-- Two states that agree but for what the host can write while an operation runs: DONE, CMDERR, CONFIG, the port
`bus_rdata`, and what the host presents from here on. -/
def HostSide (s u : State) : Prop :=
  u = { s with
    done := u.done, cmderr := u.cmderr, cfgIe := u.cfgIe, cfgPace := u.cfgPace, busRdata := u.busRdata
    hostIn := u.hostIn }

/-- What the outside sees of a state: every register of the window, `bus_rdata`, and the outputs (R43, R44, R160). -/
def observation (s : State) : (Reg → Word) × Word × Bool × Bool × Bool :=
  (readValue s, s.busRdata, pinOe s, pinOut s, irq s)

/-- The states before the first data bit: the trigger and the preamble. -/
def beforeBits : EngineState → Bool
  | .trigH0 => true
  | .trigOe => true
  | .trigLow => true
  | .trigH1 => true
  | .wait .preF1 => true
  | .wait .preR => true
  | .wait .preF2 => true
  | .wait .bitR => false
  | .wait .bitF => false
  | .idle => false
  | .decode => false

/-- What every state the block reaches satisfies. -/
structure Inv (s : State) : Prop where
  /-- The parameters are legal (R7). -/
  params_legal : legalParams s.params = true
  /-- TCNT fits its register (R30). -/
  tcnt_fits : s.tcnt ≤ tcntMax s.params
  /-- PCNT counts the cycles left before the next paced sample (R31). -/
  pcnt_fits : s.pcnt ≤ paceCycles s.params - 1
  /-- BITCNT is 0 to 40 (R34, R117). -/
  bitcnt_le : s.bitcnt.toNat ≤ 40
  /-- SHIFT holds no more bits than were captured (R32, R117). -/
  shift_fits : s.shift.toNat < 2 ^ s.bitcnt.toNat
  /-- RESULT is never INVALID_FRAME (R148). -/
  result_legal : s.result ≠ .invalidFrame
  /-- While an operation runs the flags of the previous one are cleared (R100, R101, R140, R240). -/
  busy_clear : s.st ≠ .idle → s.done = false ∧ s.result = .none ∧ s.toState = none
  /-- DONE stands only beside a result (R201). -/
  done_result : s.done = true → s.result ≠ .none
  /-- TO_STATE names a wait exactly when the result is TIMEOUT (R42, R202). -/
  timeout_state : s.result = .timeout ↔ s.toState.isSome = true
  /-- Only a bounded acquisition times out (R101, R112), with 0 to 39 bits captured (R202). -/
  timeout_bounded : s.result = .timeout → s.modeB = true ∧ s.bitcnt.toNat < 40
  /-- TRIG_LOW counts below TRIG_CYCLES (R104). -/
  trig_count : s.st = .trigLow → s.tcnt ≤ trigCycles s.params - 1
  /-- No bit is captured before the bit slots (R100, R101). -/
  no_bits_yet : beforeBits s.st = true → s.bitcnt = 0#6
  /-- An edge wait has fewer than 40 bits (R117). -/
  wait_bits : ∀ w, s.st = .wait w → s.bitcnt.toNat < 40
  /-- A bounded wait never counts past TIMEOUT_CYCLES + 1 (R112). -/
  wait_bound : ∀ w, s.st = .wait w → s.modeB = true → s.tcnt ≤ timeoutCycles s.params + 1

end Sys2Proof.Machine
end

