-- ==== Sys2Proof/Certificates/Slice0/Obligations.lean ====
section
/-! DEFINITION. The statements about the block, in the order of the spec's files. A statement about a cycle speaks of
`step`; one about the effect of an operation alone speaks of `exec`, on the state at the start of the cycle. -/

open Sys2Proof Sys2Proof.Machine

/-! ## Encodings -/

/-- R70, R71, R72: no bit of an instruction is dropped. -/
def Obligations.DecodeOfEncodeIsTheInstruction : Prop :=
  ∀ i : Instr, i.wellFormed = true → decode (encode i) = i

/-- R70, R71: every word is some well-formed instruction's, and only that one's. -/
def Obligations.EncodeOfDecodeIsTheWord : Prop :=
  ∀ w : Brw, (decode w).wellFormed = true ∧ encode (decode w) = w

/-- R70: the fields of the word; a cycle with `bus_valid` = 0 has none; the decoder is total, and the row it answers is
the only row of the opcode table that fits. -/
def Obligations.EveryRequestWordSelectsExactlyOneRow : Prop :=
  (∀ p : HostPorts, p.busValid = false → portsRequest p = none)
  ∧ (∀ p : HostPorts, p.busValid = true → ∃ w, portsRequest p = some w ∧ w.getLsbD 38 = p.busWe
      ∧ w.extractLsb' 32 6 = p.busAddr ∧ w.extractLsb' 0 32 = p.busWdata)
  ∧ ∀ w : Brw, (opcodeTable.filter (fun r => r.fits w)).map (fun r => r.mnemonic) = [(decode w).mnemonic]

/-- The words of programs P1 to P5 and of V-B2 and V-B6 (spec/95_test_vectors.md), as the spec writes them out. -/
def Obligations.WordsOfTheSpecDecode : Prop :=
  decode 0x4C00000002#39 = .wrFrameHi 0#2 0x02#32 ∧ decode 0x5092010DA2#39 = .wrFrameLo 0#2 0x92010DA2#32
  ∧ decode 0x4000000003#39 = .decode 0#2 0#28 ∧ decode 0x4000000001#39 = .measure 0#2 0#28
  ∧ decode 0x4000000002#39 = .measureLegacy 0#2 0#28 ∧ decode 0x4000000000#39 = .nop 0#2 0#28
  ∧ decode 0x4000000007#39 = .ctrlRsvd47 0#2 7#4 0#28 ∧ decode 0x400000000F#39 = .ctrlRsvd8F 0#2 15#4 0#28
  ∧ decode 0x4000000011#39 = .measure 0#2 1#28 ∧ decode 0x4400000022#39 = .wrStatus 0#2 0x22#32
  ∧ decode 0x4800000003#39 = .wrConfig 0#2 0x3#32 ∧ decode 0x2400000000#39 = .rd 0x24#6 0#32
  ∧ decode 0x5400001234#39 = .wrHumidity 0#2 0x1234#32 ∧ decode 0x7CFFFFFFFF#39 = .wrUnmappedF 0#2 0xFFFFFFFF#32

/-- R53, D8: the five bytes of an operation decode to it; a narrower access is refused by name, and so is a longer one.
That a request is five bytes, the lowest first, is the model's choice (log 9). -/
def Obligations.OnlyAWholeRequestDecodes : Prop :=
  (∀ i : Instr, i.wellFormed = true → decodeBytes (encodeBytes i) = .ok i)
  ∧ (∀ bs : List Byte, bs.length < 5 → decodeBytes bs = .error .narrowAccess)
  ∧ ∀ bs : List Byte, 5 < bs.length → decodeBytes bs = .error .tooLong

/-! ## One clock cycle -/

/-- R169: a cycle with `rst` = 0 runs the operation its word decodes to, on the state at the start of the cycle, and
then the rest of the clock edge; a cycle with no operation is the clock edge alone. `withFetchWord` presents an
operation to the next step (the model's own convention, log 8). -/
def Obligations.StepRunsTheDecodedOperation : Prop :=
  (∀ (s h : State) (w : Brw), Runs s → portsRequest s.ports = some w → exec (decode w) (beginCycle s) = .next h →
    step s = .next (clockEdge s h))
  ∧ (∀ s : State, Runs s → PresentsNothing s → step s = .next (clockEdge s (beginCycle s)))
  ∧ ∀ (s : State) (i : Instr), i.wellFormed = true → s.result ≠ .invalidFrame →
      let s' := s.withFetchWord 40 (encode i).toNat
      ∃ h, exec i (beginCycle s') = .next h ∧ step s' = .next (clockEdge s' h)

/-- R23: the synchronizer's reset value, and its two shifts in every state in every cycle with `rst` = 0. -/
def Obligations.SynchronizerShiftsEveryCycle : Prop :=
  (State.reset.sync0 = false ∧ State.reset.sync1 = false)
  ∧ (∀ s : State, s.ports.rst = true → ∃ t, step s = .next t ∧ t.sync0 = false ∧ t.sync1 = false)
  ∧ ∀ s : State, Runs s → ∃ t, step s = .next t ∧ t.sync0 = s.pinIn ∧ t.sync1 = s.sync0

/-- R230: a cycle with `rst` = 1 does the reset action and nothing else, whatever the host presents; `bus_rdata` is 0. -/
def Obligations.ResetCycleDoesOnlyTheResetAction : Prop :=
  ∀ s : State, s.ports.rst = true → ∃ t, step s = .next t
    ∧ t.sync0 = false ∧ t.sync1 = false ∧ t.st = .idle ∧ t.modeB = false ∧ t.paceL = false ∧ t.arm = false
    ∧ t.tcnt = 0 ∧ t.pcnt = 0 ∧ t.shift = 0#40 ∧ t.frame = 0#40 ∧ t.bitcnt = 0#6 ∧ t.hum = 0#16
    ∧ t.tsign = false ∧ t.tmag = 0#15 ∧ t.rxsum = 0#8 ∧ t.calcsum = 0#8 ∧ t.done = false ∧ t.result = .none
    ∧ t.cmderr = false ∧ t.cfgIe = false ∧ t.cfgPace = true ∧ t.toState = none ∧ t.busRdata = 0#32
    ∧ t.params = s.params ∧ t.hostIn = s.hostIn.tail ∧ t.lineIn = s.lineIn.tail

/-- R232: one reset cycle is enough, and while `rst` stays 1 the state stays at the reset values. -/
def Obligations.ResetHeldKeepsTheResetState : Prop :=
  ∀ (n : Nat) (s : State), 0 < n → n ≤ s.hostIn.length → (∀ p ∈ s.hostIn.take n, p.rst = true) →
    runFor n s = .next { State.resetWith s.params with
      hostIn := s.hostIn.drop n, lineIn := s.lineIn.drop n, cycle := s.cycle + n }

/-- R234: after reset nothing runs and nothing starts by itself; what each register reads; LINE follows `pin_in` two
cycles late; a DECODE right after reset is OK with humidity and temperature 0. -/
def Obligations.StateAfterResetAsTheHostSeesIt : Prop :=
  ∀ p : Params, legalParams p = true →
    (∀ (levels : List Bool) (n : Nat), n ≤ levels.length →
      ∃ t, runFor n { State.resetWith p with lineIn := levels } = .next t ∧ t.st = .idle
        ∧ readValue t .status = (if 2 ≤ n ∧ levels[n - 2]? = some true then 0x40#32 else 0#32)
        ∧ readValue t .config = 2#32 ∧ readValue t .frameHi = 0#32 ∧ readValue t .frameLo = 0#32
        ∧ readValue t .humidity = 0#32 ∧ readValue t .tempRaw = 0#32 ∧ readValue t .temperature = 0#32
        ∧ readValue t .checksum = 0#32 ∧ readValue t .progress = 0#32
        ∧ (readValue t .param).toNat = p.cyclesPerUs ∧ irq t = false ∧ pinOe t = false)
    ∧ ∀ (lo : BitVec 2) (ign : BitVec 28),
        ∃ t, runFor 2 { State.resetWith p with hostIn := [requestPorts (encode (.decode lo ign))] } = .next t
          ∧ t.result = .ok ∧ t.done = true ∧ readValue t .humidity = 0#32 ∧ readValue t .temperature = 0#32

/-! ## Register access -/

/-- R160: the value of every register, field by field, as a number; a read changes nothing but `bus_rdata`, which is
computed from the state at the start of the cycle and is 0 in a cycle with no read or with `rst` = 1. -/
def Obligations.ReadReturnsTheRegister : Prop :=
  (∀ (off : BitVec 6) (data : Word) (s : State), ∃ v : Word, exec (.rd off data) s = .next { s with busRdata := v }
    ∧ (off.toNat / 4 = 0 → v.toNat = 0)
    ∧ (off.toNat / 4 = 1 → v.toNat = (decide (s.st ≠ .idle)).toNat + 2 * s.done.toNat + 4 * (resultCode s.result).toNat
        + 32 * s.cmderr.toNat + 64 * s.sync1.toNat + 128 * s.modeB.toNat)
    ∧ (off.toNat / 4 = 2 → v.toNat = s.cfgIe.toNat + 2 * s.cfgPace.toNat)
    ∧ (off.toNat / 4 = 3 → v.toNat = s.frame.toNat / 2 ^ 32)
    ∧ (off.toNat / 4 = 4 → v.toNat = s.frame.toNat % 2 ^ 32)
    ∧ (off.toNat / 4 = 5 → v.toNat = s.hum.toNat)
    ∧ (off.toNat / 4 = 6 → v.toNat = s.tmag.toNat + 2 ^ 15 * s.tsign.toNat)
    ∧ (off.toNat / 4 = 7 → v.toNat = if s.tsign then (2 ^ 32 - s.tmag.toNat) % 2 ^ 32 else s.tmag.toNat)
    ∧ (off.toNat / 4 = 8 → v.toNat = s.rxsum.toNat + 256 * s.calcsum.toNat)
    ∧ (off.toNat / 4 = 9 → v.toNat = s.bitcnt.toNat + 256 * (stateCode s.st).toNat + 4096 * (toStateCode s.toState).toNat)
    ∧ (off.toNat / 4 = 10 → v.toNat = s.params.cyclesPerUs % 2 ^ 16)
    ∧ (11 ≤ off.toNat / 4 → v.toNat = 0))
  ∧ (∀ (s : State) (off : BitVec 6) (data : Word), Runs s → Presents s (.rd off data) →
      ∃ t, step s = .next t ∧ t.busRdata = readValue s (regAt off))
  ∧ (∀ s : State, Runs s → (∀ off data, ¬ Presents s (.rd off data)) → ∃ t, step s = .next t ∧ t.busRdata = 0#32)
  ∧ ∀ s : State, s.ports.rst = true → ∃ t, step s = .next t ∧ t.busRdata = 0#32

/-- R57: a cycle with a read and the same cycle with no operation leave the same state, `bus_rdata` apart. -/
def Obligations.ReadsHaveNoSideEffect : Prop :=
  ∀ (s : State) (off : BitVec 6) (data : Word) (rest : List HostPorts), s.result ≠ .invalidFrame →
    ∃ t, step { s with hostIn := idlePorts :: rest } = .next t
      ∧ step { s with hostIn := requestPorts (encode (.rd off data)) :: rest }
          = .next { t with busRdata := readValue s (regAt off) }

/-- R54: `bus_addr[1:0]` is ignored, in every cycle: a misaligned offset neither faults nor splits. -/
def Obligations.LowAddressBitsAreIgnored : Prop :=
  ∀ (s : State) (p : HostPorts) (addr : BitVec 6) (rest : List HostPorts), addr.toNat / 4 = p.busAddr.toNat / 4 →
    step { s with hostIn := p :: rest } = step { s with hostIn := { p with busAddr := addr } :: rest }

/-- R161 (with the acceptance of R100, R101, R140): which command a CTRL write carries, and what each does. -/
def Obligations.CtrlWriteFollowsItsCommand : Prop :=
  (∀ (lo : BitVec 2) (cmd : BitVec 4) (ign : BitVec 28),
    (cmd = 0#4 → decode (ctrlWord lo cmd ign) = .nop lo ign)
    ∧ (cmd = 1#4 → decode (ctrlWord lo cmd ign) = .measure lo ign)
    ∧ (cmd = 2#4 → decode (ctrlWord lo cmd ign) = .measureLegacy lo ign)
    ∧ (cmd = 3#4 → decode (ctrlWord lo cmd ign) = .decode lo ign)
    ∧ (4 ≤ cmd.toNat → decode (ctrlWord lo cmd ign) = .ctrlRsvd47 lo cmd ign
        ∨ decode (ctrlWord lo cmd ign) = .ctrlRsvd8F lo cmd ign))
  ∧ ∀ (s : State) (lo : BitVec 2) (ign : BitVec 28),
    exec (.nop lo ign) s = .next s
    ∧ (∀ cmd, exec (.ctrlRsvd47 lo cmd ign) s = .next { s with cmderr := true })
    ∧ (∀ cmd, exec (.ctrlRsvd8F lo cmd ign) s = .next { s with cmderr := true })
    ∧ (s.st ≠ .idle → exec (.measure lo ign) s = .next { s with cmderr := true }
        ∧ exec (.measureLegacy lo ign) s = .next { s with cmderr := true }
        ∧ exec (.decode lo ign) s = .next { s with cmderr := true })
    ∧ (s.st = .idle →
        exec (.measure lo ign) s = .next { s with
          modeB := true, paceL := s.cfgPace, shift := 0#40, bitcnt := 0#6, tcnt := 0,
          done := false, result := .none, toState := none, st := .trigH0 }
        ∧ exec (.measureLegacy lo ign) s = .next { s with
          modeB := false, paceL := s.cfgPace, shift := 0#40, bitcnt := 0#6, tcnt := 0,
          done := false, result := .none, toState := none, st := .trigH0 }
        ∧ exec (.decode lo ign) s = .next { s with
          done := false, result := .none, toState := none, st := .decode })

/-- R162 and R168: NOP and the writes of unmapped offsets do nothing, in any state, whatever their data. -/
def Obligations.NopAndUnmappedWritesDoNothing : Prop :=
  ∀ (s : State) (lo : BitVec 2) (ign : BitVec 28) (data : Word),
    exec (.nop lo ign) s = .next s
    ∧ exec (.wrUnmappedB lo data) s = .next s ∧ exec (.wrUnmappedC lo data) s = .next s
    ∧ exec (.wrUnmappedD lo data) s = .next s ∧ exec (.wrUnmappedE lo data) s = .next s
    ∧ exec (.wrUnmappedF lo data) s = .next s

/-- R165: writes of read-only registers do nothing, and the measurement registers change only in a decode. -/
def Obligations.ReadOnlyRegistersIgnoreWrites : Prop :=
  (∀ (s : State) (lo : BitVec 2) (data : Word),
    exec (.wrHumidity lo data) s = .next s ∧ exec (.wrTempRaw lo data) s = .next s
    ∧ exec (.wrTemperature lo data) s = .next s ∧ exec (.wrChecksum lo data) s = .next s
    ∧ exec (.wrProgress lo data) s = .next s ∧ exec (.wrParam lo data) s = .next s)
  ∧ ∀ s t : State, s.ports.rst = false → step s = .next t →
      t.hum ≠ s.hum ∨ t.tsign ≠ s.tsign ∨ t.tmag ≠ s.tmag → s.st = .decode ∧ checksumOk s.frame = true

/-- R163: a 1 in DATA[1] clears DONE unless `finish` sets it in this cycle, a 1 in DATA[5] clears CMDERR, nothing else
is written; RESULT is kept and `irq` falls. -/
def Obligations.StatusWriteAcknowledges : Prop :=
  ∀ (s : State) (lo : BitVec 2) (data : Word),
    exec (.wrStatus lo data) s = .next { s with
      done := s.done && !data.getLsbD 1, cmderr := s.cmderr && !data.getLsbD 5 }
    ∧ (Runs s → Presents s (.wrStatus lo data) → ∃ t, step s = .next t
        ∧ (t.done = true ↔ Finishes s ∨ (s.done = true ∧ data.getLsbD 1 = false))
        ∧ t.cmderr = (s.cmderr && !data.getLsbD 5)
        ∧ (¬ Finishes s → t.result = s.result ∧ (data.getLsbD 1 = true → irq t = false)))

/-- R164: CONFIG takes DATA[1:0] in any state; `irq` follows IE, and a running operation keeps its pacing. -/
def Obligations.ConfigWriteStoresItsTwoBits : Prop :=
  ∀ (s : State) (lo : BitVec 2) (data : Word),
    (∃ h, exec (.wrConfig lo data) s = .next h
      ∧ h = { s with cfgIe := data.getLsbD 0, cfgPace := data.getLsbD 1 }
      ∧ (readValue h .config).toNat = data.toNat % 4)
    ∧ (Runs s → Presents s (.wrConfig lo data) → ∃ t, step s = .next t
        ∧ t.cfgIe = data.getLsbD 0 ∧ t.cfgPace = data.getLsbD 1 ∧ t.paceL = s.paceL
        ∧ irq t = (t.done && data.getLsbD 0))

/-- R166 and R167: FRAME takes the host's writes only while ST = IDLE, the other part of it unchanged. -/
def Obligations.FrameWritesOnlyWhileIdle : Prop :=
  ∀ (s : State) (lo : BitVec 2) (data : Word),
    (s.st ≠ .idle → exec (.wrFrameHi lo data) s = .next s ∧ exec (.wrFrameLo lo data) s = .next s)
    ∧ (s.st = .idle →
        (∃ f : Frame, exec (.wrFrameHi lo data) s = .next { s with frame := f }
          ∧ f.toNat = data.toNat % 2 ^ 8 * 2 ^ 32 + s.frame.toNat % 2 ^ 32)
        ∧ ∃ f : Frame, exec (.wrFrameLo lo data) s = .next { s with frame := f }
          ∧ f.toNat = s.frame.toNat / 2 ^ 32 * 2 ^ 32 + data.toNat)

/-- R43: the pin outputs, by the code of ST. -/
def Obligations.PinsFollowTheState : Prop :=
  ∀ s : State,
    (pinOe s = true ↔ (stateCode s.st).toNat = 2 ∨ (stateCode s.st).toNat = 3 ∨ (stateCode s.st).toNat = 4)
    ∧ (pinOut s = true ↔ (stateCode s.st).toNat = 1 ∨ (stateCode s.st).toNat = 2 ∨ (stateCode s.st).toNat = 4)

/-! ## Acquisition -/

/-- R102, R103, R105: the one-cycle states of the trigger. -/
def Obligations.TriggerStatesTakeOneCycle : Prop :=
  ∀ s : State, Runs s →
    (s.st = .trigH0 → pinOe s = false ∧ pinOut s = true ∧ ∃ t, step s = .next t ∧ t.st = .trigOe)
    ∧ (s.st = .trigOe → pinOe s = true ∧ pinOut s = true ∧ ∃ t, step s = .next t ∧ t.st = .trigLow ∧ t.tcnt = 0)
    ∧ (s.st = .trigH1 → pinOe s = true ∧ pinOut s = true ∧ ∃ t, step s = .next t
        ∧ t.st = .wait .preF1 ∧ t.tcnt = 0 ∧ t.arm = false ∧ t.pcnt = 0 ∧ pinOe t = false)

/-- R104, R106: an acquisition accepted in cycle 0 drives the line low in exactly TRIG_CYCLES cycles and releases it in
cycle TRIG_CYCLES + 4, the first cycle of PRE_F1, whatever the host and the line do meanwhile. -/
def Obligations.TriggerWaveform : Prop :=
  ∀ (s : State) (lo : BitVec 2) (ign : BitVec 28), legalParams s.params = true → Runs s → s.st = .idle →
    Presents s (.measure lo ign) ∨ Presents s (.measureLegacy lo ign) →
    NoReset (1000 * s.params.cyclesPerUs + 4) s →
    ∀ c, 1 ≤ c → c ≤ 1000 * s.params.cyclesPerUs + 4 → ∃ t, runFor c s = .next t
      ∧ (pinOe t = true ↔ 2 ≤ c ∧ c ≤ 1000 * s.params.cyclesPerUs + 3)
      ∧ (pinOut t = true ↔ c = 1 ∨ c = 2 ∨ c = 1000 * s.params.cyclesPerUs + 3)
      ∧ (c = 1000 * s.params.cyclesPerUs + 4 → t.st = .wait .preF1 ∧ t.tcnt = 0 ∧ t.arm = false)

/-- R107 to R111, R113, R114: the step of an edge wait, written out: when the line is sampled, when the wait completes
and into which wait, when it times out, what it counts otherwise, and what it leaves alone. -/
def Obligations.EdgeWaitStepAsWritten : Prop :=
  ∀ (s : State) (w : EdgeWait) (level : Bool), Runs s → s.st = .wait w →
    (level = true ↔ w = .preR ∨ w = .bitR) →
    ∀ paced sample complete : Prop,
      (paced ↔ level = false ∧ s.modeB = false ∧ s.paceL = true ∧ s.arm = false) →
      (sample ↔ ¬ paced ∨ s.pcnt = 0) →
      (complete ↔ sample ∧ s.arm = true ∧ s.sync1 = level) →
      ∃ t, step s = .next t
        ∧ (complete →
            (w = .preF1 → t.st = .wait .preR) ∧ (w = .preR → t.st = .wait .preF2) ∧ (w = .preF2 → t.st = .wait .bitR)
            ∧ (w = .bitR → t.st = .wait .bitF)
            ∧ (w = .bitF → t.st = if s.bitcnt.toNat + 1 = 40 then .decode else .wait .bitR)
            ∧ (t.st ≠ .decode → t.tcnt = 0 ∧ t.arm = false ∧ t.pcnt = 0))
        ∧ (¬ complete → s.modeB = true → 100 * s.params.cyclesPerUs < s.tcnt →
            t.st = .idle ∧ t.toState = some w ∧ t.result = .timeout ∧ t.done = true)
        ∧ (¬ complete → ¬ (s.modeB = true ∧ 100 * s.params.cyclesPerUs < s.tcnt) →
            t.st = .wait w ∧ t.tcnt = min (s.tcnt + 1) (2 ^ s.params.tw - 1)
            ∧ (t.arm = true ↔ s.arm = true ∨ (sample ∧ s.sync1 ≠ level))
            ∧ (paced → t.pcnt = if s.pcnt = 0 then s.params.cyclesPerUs - 1 else s.pcnt - 1)
            ∧ (¬ paced → t.pcnt = s.pcnt))
        ∧ (¬ (complete ∧ w = .bitF) → t.shift = s.shift ∧ t.bitcnt = s.bitcnt ∧ t.frame = s.frame)
        ∧ t.modeB = s.modeB ∧ t.paceL = s.paceL ∧ t.hum = s.hum ∧ t.tsign = s.tsign ∧ t.tmag = s.tmag
        ∧ t.rxsum = s.rxsum ∧ t.calcsum = s.calcsum

/-- R109 (a), (b), (c): a level is never mistaken for an edge. A wait is left, other than by timeout, only on a sample of
its target level after one of the opposite level, so never in the cycle it was entered. -/
def Obligations.AWaitNeedsAnEdge : Prop :=
  ∀ (s t : State) (w : EdgeWait), s.ports.rst = false → s.st = .wait w → step s = .next t →
    (t.st ≠ .wait w → t.st ≠ .idle → s.arm = true ∧ s.sync1 = targetLevel w)
    ∧ (t.st = .wait w → t.arm = true → s.arm = true ∨ s.sync1 ≠ targetLevel w)
    ∧ (∀ v, t.st = .wait v → v ≠ w → t.arm = false)

/-- R112: a bounded wait times out exactly in its cycle TIMEOUT_CYCLES + 1, completion first; the data registers and
BITCNT are kept; an unbounded wait never does. -/
def Obligations.TimeoutIsStrictAndCompletionWins : Prop :=
  ∀ (s : State) (w : EdgeWait), Runs s → s.st = .wait w → ∃ t, step s = .next t
    ∧ (s.arm = true ∧ s.sync1 = targetLevel w → t.st ≠ .idle)
    ∧ (s.modeB = false → t.st ≠ .idle)
    ∧ (s.tcnt ≤ 100 * s.params.cyclesPerUs → t.st ≠ .idle)
    ∧ (¬ (s.arm = true ∧ s.sync1 = targetLevel w) → s.modeB = true → 100 * s.params.cyclesPerUs < s.tcnt →
        t.toState = some w ∧ t.result = .timeout ∧ t.done = true ∧ t.st = .idle
        ∧ t.frame = s.frame ∧ t.hum = s.hum ∧ t.tsign = s.tsign ∧ t.tmag = s.tmag
        ∧ t.rxsum = s.rxsum ∧ t.calcsum = s.calcsum ∧ t.bitcnt = s.bitcnt)

/-- R116, R117: the bit is 1 exactly when the width TCNT + 1 exceeds BIT_CYCLES; it is appended, and the fortieth
completes FRAME, all forty bits at once. -/
def Obligations.CaptureAppendsTheClassifiedBit : Prop :=
  ∀ s : State, Runs s → s.st = .wait .bitF → s.arm = true → s.sync1 = false → ∃ t, step s = .next t
    ∧ t.shift.toNat = (2 * s.shift.toNat + if 50 * s.params.cyclesPerUs < s.tcnt + 1 then 1 else 0) % 2 ^ 40
    ∧ t.bitcnt.toNat = (s.bitcnt.toNat + 1) % 64
    ∧ (s.bitcnt.toNat + 1 = 40 → t.frame = t.shift ∧ t.st = .decode)
    ∧ (s.bitcnt.toNat + 1 ≠ 40 → t.frame = s.frame ∧ t.st = .wait .bitR ∧ t.tcnt = 0 ∧ t.arm = false ∧ t.pcnt = 0)

/-- R113: the preamble. From the first cycle of PRE_F1, samples low (z, none or some: after the trigger the first is the
block's own low when the pad reads back, R247), high (a), low (b), high (c), low lead to the first cycle of BIT_R, in
either mode and paced or not, and no bit is captured. A paced wait needs one of its samples, every PACE_CYCLES cycles, to
fall into the high run (R111, R248). -/
def Obligations.PreambleIsConsumed : Prop :=
  ∀ (s : State) (z a b c : Nat) (rest : List Bool), legalParams s.params = true → s.result ≠ .invalidFrame →
    s.st = .wait .preF1 → s.tcnt = 0 → s.arm = false → s.pcnt = 0 → 1 ≤ a → 2 ≤ b → 2 ≤ c →
    (s.modeB = true → z + a ≤ 100 * s.params.cyclesPerUs + 1 ∧ b ≤ 100 * s.params.cyclesPerUs + 2
      ∧ c ≤ 100 * s.params.cyclesPerUs + 2) →
    (s.modeB = false → s.paceL = true → ∃ j, z ≤ j * s.params.cyclesPerUs ∧ j * s.params.cyclesPerUs < z + a) →
    s.sync1 :: s.sync0 :: s.lineIn
      = List.replicate z false ++ List.replicate a true ++ List.replicate b false ++ List.replicate c true
        ++ false :: rest →
    NoReset (z + a + b + c + 1) s →
    ∃ t, runFor (z + a + b + c + 1) s = .next t ∧ t.st = .wait .bitR ∧ t.tcnt = 0 ∧ t.arm = false ∧ t.pcnt = 0
      ∧ t.bitcnt = s.bitcnt ∧ t.shift = s.shift ∧ t.frame = s.frame

/-- R118, R119: a clean pulse of h >= 2 high samples after m >= 1 low ones is measured as h cycles wide: its bit is 1
exactly when h exceeds BIT_CYCLES. The samples are SYNC[1], SYNC[0] and then the levels still to come. -/
def Obligations.CleanPulseIsMeasuredExactly : Prop :=
  ∀ (s : State) (m h : Nat) (rest : List Bool), legalParams s.params = true → s.result ≠ .invalidFrame →
    s.st = .wait .bitR → s.tcnt = 0 → s.arm = false → s.bitcnt.toNat < 40 → 1 ≤ m → 2 ≤ h →
    (s.modeB = true → m ≤ 100 * s.params.cyclesPerUs + 1 ∧ h ≤ 100 * s.params.cyclesPerUs + 2) →
    s.sync1 :: s.sync0 :: s.lineIn = List.replicate m false ++ List.replicate h true ++ false :: rest →
    NoReset (m + h + 1) s →
    ∃ t, runFor (m + h + 1) s = .next t ∧ t.bitcnt.toNat = s.bitcnt.toNat + 1
      ∧ t.shift.toNat = (2 * s.shift.toNat + if 50 * s.params.cyclesPerUs < h then 1 else 0) % 2 ^ 40
      ∧ t.st = if s.bitcnt.toNat + 1 = 40 then .decode else .wait .bitR

/-- R122: forty clean pulses are captured one to one in wire order: FRAME[39 - i] is the classification of the i-th. -/
def Obligations.FortyPulsesAreCapturedInWireOrder : Prop :=
  ∀ (s : State) (pulses : List (Nat × Nat)) (rest : List Bool), legalParams s.params = true →
    s.result ≠ .invalidFrame → s.st = .wait .bitR → s.tcnt = 0 → s.arm = false → s.bitcnt = 0#6 → s.shift = 0#40 →
    pulses.length = 40 →
    (∀ q ∈ pulses, 1 ≤ q.1 ∧ 2 ≤ q.2
      ∧ (s.modeB = true → q.1 ≤ 100 * s.params.cyclesPerUs + 1 ∧ q.2 ≤ 100 * s.params.cyclesPerUs + 2)) →
    s.sync1 :: s.sync0 :: s.lineIn
      = (pulses.flatMap fun q => List.replicate q.1 false ++ List.replicate q.2 true ++ [false]) ++ rest →
    NoReset (pulses.map fun q => q.1 + q.2 + 1).sum s →
    ∃ t, runFor (pulses.map fun q => q.1 + q.2 + 1).sum s = .next t ∧ t.st = .decode ∧ t.bitcnt.toNat = 40
      ∧ ∀ (i : Nat) (q : Nat × Nat), pulses[i]? = some q →
          t.frame.getLsbD (39 - i) = decide (50 * s.params.cyclesPerUs < q.2)

/-- R121: a bounded operation ends, whatever the line and the host do, and DONE reads 1 at the latest in cycle
3 + TRIG_CYCLES + 83 * (TIMEOUT_CYCLES + 2) + 1 + 1 from acceptance in cycle 0. -/
def Obligations.BoundedAcquisitionEnds : Prop :=
  ∀ (s : State) (lo : BitVec 2) (ign : BitVec 28), legalParams s.params = true → Runs s → s.st = .idle →
    Presents s (.measure lo ign) →
    let bound := 3 + 1000 * s.params.cyclesPerUs + 83 * (100 * s.params.cyclesPerUs + 2) + 1
    NoReset (bound + 1) s →
    ∃ n t, 1 ≤ n ∧ n ≤ bound + 1 ∧ runFor n s = .next t ∧ t.st = .idle ∧ t.done = true
      ∧ (t.result = .ok ∨ t.result = .timeout ∨ t.result = .checksum)
      ∧ ∀ k, 1 ≤ k → k < n → ∃ u, runFor k s = .next u ∧ u.st ≠ .idle

/-- R120: an unbounded wait whose edge does not come never ends: on a line that stays at one level the engine is in the
same wait after any number of cycles, BUSY = 1. -/
def Obligations.UnboundedWaitHangsOnASilentLine : Prop :=
  ∀ (n : Nat) (s : State) (w : EdgeWait) (level : Bool), s.result ≠ .invalidFrame → s.modeB = false → s.st = .wait w →
    s.sync1 = level → s.sync0 = level → n ≤ s.lineIn.length → (∀ b ∈ s.lineIn.take n, b = level) →
    (s.arm = true → level ≠ targetLevel w) → NoReset n s →
    ∃ t, runFor n s = .next t ∧ t.st = .wait w ∧ busy t = true

/-! ## Decoder -/

/-- R141 to R147: the decode step, with the fields of FRAME as numbers. -/
def Obligations.DecodeStepValidatesAndScales : Prop :=
  ∀ (s : State) (b0 b1 b2 b3 b4 : Nat), Runs s → s.st = .decode →
    b0 = s.frame.toNat / 2 ^ 32 % 256 → b1 = s.frame.toNat / 2 ^ 24 % 256 → b2 = s.frame.toNat / 2 ^ 16 % 256 →
    b3 = s.frame.toNat / 2 ^ 8 % 256 → b4 = s.frame.toNat % 256 →
    ∃ t, step s = .next t ∧ t.st = .idle ∧ t.done = true
      ∧ t.rxsum.toNat = b4 ∧ t.calcsum.toNat = (b0 + b1 + b2 + b3) % 256
      ∧ ((b0 + b1 + b2 + b3) % 256 = b4 → t.result = .ok ∧ t.hum.toNat = 256 * b0 + b1
          ∧ t.tsign = decide (128 ≤ b2) ∧ t.tmag.toNat = 256 * (b2 % 128) + b3)
      ∧ ((b0 + b1 + b2 + b3) % 256 ≠ b4 → t.result = .checksum ∧ t.hum = s.hum ∧ t.tsign = s.tsign ∧ t.tmag = s.tmag)
      ∧ t.frame = s.frame ∧ t.modeB = s.modeB ∧ t.paceL = s.paceL ∧ t.bitcnt = s.bitcnt ∧ t.shift = s.shift
      ∧ t.toState = s.toState

/-- R153: a frame whose sum matches decodes to OK; the same frame with another checksum field decodes to CHECKSUM and
produces no measurement. -/
def Obligations.AlteredChecksumIsRejected : Prop :=
  ∀ (s : State) (b0 b1 b2 b3 b4 : Byte), Runs s → s.st = .decode → s.frame = b0 ++ b1 ++ b2 ++ b3 ++ b4 →
    ∃ t, step s = .next t
      ∧ ((b0.toNat + b1.toNat + b2.toNat + b3.toNat) % 256 = b4.toNat → t.result = .ok)
      ∧ (∀ b4' : Byte, (b0.toNat + b1.toNat + b2.toNat + b3.toNat) % 256 = b4'.toNat → b4 ≠ b4' →
          t.result = .checksum ∧ t.hum = s.hum ∧ t.tsign = s.tsign ∧ t.tmag = s.tmag)

/-- R154: setting the sign bit of a valid frame and adding 0x80 to its checksum negates the temperature and nothing else;
flipping the sign bit alone gives CHECKSUM (C2). -/
def Obligations.SignBitNegatesTheTemperature : Prop :=
  ∀ (s s' s'' : State) (b0 b1 b2 b3 b4 : Byte), Runs s → Runs s' → Runs s'' →
    s.st = .decode → s'.st = .decode → s''.st = .decode →
    s.frame = b0 ++ b1 ++ b2 ++ b3 ++ b4 → b2.toNat < 128 →
    (b0.toNat + b1.toNat + b2.toNat + b3.toNat) % 256 = b4.toNat →
    s'.frame = b0 ++ b1 ++ (b2 ||| 0x80#8) ++ b3 ++ (b4 + 0x80#8) →
    s''.frame = b0 ++ b1 ++ (b2 ||| 0x80#8) ++ b3 ++ b4 →
    ∃ t t' t'', step s = .next t ∧ step s' = .next t' ∧ step s'' = .next t''
      ∧ t.result = .ok ∧ t'.result = .ok ∧ t''.result = .checksum
      ∧ t'.hum = t.hum ∧ t'.tmag = t.tmag ∧ t.tsign = false ∧ t'.tsign = true
      ∧ (temperatureWord t').toInt = -(temperatureWord t).toInt

/-- R151, R152: the decode is a function of FRAME alone, and decoding one frame twice leaves the same registers. -/
def Obligations.DecodeIsAFunctionOfTheFrame : Prop :=
  (∀ s s' : State, Runs s → Runs s' → s.st = .decode → s'.st = .decode → s.frame = s'.frame →
    ∃ t t', step s = .next t ∧ step s' = .next t' ∧ t.result = t'.result ∧ t.rxsum = t'.rxsum ∧ t.calcsum = t'.calcsum
      ∧ (t.result = .ok → t.hum = t'.hum ∧ t.tsign = t'.tsign ∧ t.tmag = t'.tmag))
  ∧ ∀ (s : State) (lo : BitVec 2) (ign : BitVec 28) (rest : List HostPorts), s.st = .idle → s.result ≠ .invalidFrame →
      let dec := requestPorts (encode (.decode lo ign))
      s.hostIn = dec :: idlePorts :: dec :: idlePorts :: rest →
      ∃ t u, runFor 2 s = .next t ∧ runFor 4 s = .next u ∧ t.frame = s.frame ∧ u.frame = s.frame
        ∧ t.hum = u.hum ∧ t.tsign = u.tsign ∧ t.tmag = u.tmag ∧ t.rxsum = u.rxsum ∧ t.calcsum = u.calcsum
        ∧ t.result = u.result ∧ t.bitcnt = s.bitcnt ∧ t.modeB = s.modeB

/-- R84, R149: TEMPERATURE reads the signed tenths in two's complement, and HUMIDITY the tenths, of the exact physical
values; negative zero reads 0. -/
def Obligations.TemperatureReadsSignedTenths : Prop :=
  ∀ s : State, (readValue s .temperature).toInt = (if s.tsign then -(s.tmag.toNat : Int) else (s.tmag.toNat : Int))
    ∧ -32767 ≤ (readValue s .temperature).toInt ∧ (readValue s .temperature).toInt ≤ 32767
    ∧ (s.tsign = true → s.tmag = 0#15 → readValue s .temperature = 0#32)
    ∧ (((readValue s .temperature).toInt : Int) : Rat) = 10 * temperatureCelsius s
    ∧ ((readValue s .humidity).toNat : Rat) = 10 * humidityPercent s

/-- D24, R89, R140: a host that plays LOAD_FRAME v; DECODE; RD STATUS on an idle block has any 40-bit frame decoded, and
reads DONE clear and BUSY set in the decode's own cycle. -/
def Obligations.HostDecodesAnyFrame : Prop :=
  ∀ (s : State) (v : Nat), v < 2 ^ 40 → s.st = .idle → s.result ≠ .invalidFrame → s.hostIn = [] →
    ∃ t, playProgram [] 4 0 ([HostForm.loadFrame v, .decode, .rd 0x04 none].flatMap HostForm.expand) s = .next t
      ∧ t.st = .idle ∧ t.done = true ∧ t.frame.toNat = v ∧ t.busRdata.getLsbD 0 = true ∧ t.busRdata.getLsbD 1 = false
      ∧ (t.result = .ok ↔ (v / 2 ^ 32 + v / 2 ^ 24 + v / 2 ^ 16 + v / 2 ^ 8) % 256 = v % 256)
      ∧ (t.result = .ok ∨ t.result = .checksum)
      ∧ (t.result = .ok → t.hum.toNat = v / 2 ^ 24 ∧ 2 ^ 15 * t.tsign.toNat + t.tmag.toNat = v / 2 ^ 8 % 2 ^ 16)

/-- R89: the line stimulus. It states no level before its start, the segments' levels from there, and after the last
segment its level for ever; and what it states for cycle c of a program is the level the engine samples two cycles
later (R23, R24), here while the host waits. -/
def Obligations.LineStimulusDrivesThePin : Prop :=
  (∀ (line : LineStimulus) (c : Nat), c < line.start → line.levelAt c = none)
  ∧ (∀ (start : Nat) (before after : List (Bool × Nat)) (level : Bool) (n k : Nat), k < n →
      LineStimulus.levelAt ⟨start, before ++ (level, n) :: after⟩ (start + (before.map Prod.snd).sum + k) = some level)
  ∧ (∀ (start : Nat) (before : List (Bool × Nat)) (level : Bool) (n k : Nat), 1 ≤ n →
      LineStimulus.levelAt ⟨start, before ++ [(level, n)]⟩ (start + (before.map Prod.snd).sum + n + k) = some level)
  ∧ ∀ (line : LineStimulus) (c : Nat) (level : Bool) (s : State), line.levelAt c = some level →
      s.result ≠ .invalidFrame →
      ∃ t, playProgram [line] (c + 2) 0 [.wait (c + 2)] s = .next t ∧ t.sync1 = level

/-! ## Completion, flags, interrupt -/

/-- R201: an operation ends exactly when `finish` runs: by a timeout, or by the decode step; BUSY falls, DONE rises and
RESULT holds the code. -/
def Obligations.OperationsEndOnlyByFinish : Prop :=
  ∀ s : State, Runs s → s.st ≠ .idle → ∃ t, step s = .next t
    ∧ (t.st = .idle ↔ Finishes s)
    ∧ (Finishes s → t.done = true ∧ busy t = false)
    ∧ (Finishes s → s.st = .decode → t.result = if checksumOk s.frame then .ok else .checksum)
    ∧ (Finishes s → s.st ≠ .decode → t.result = .timeout ∧ s.st = t.toState.elim .idle .wait)

/-- R202: what each result leaves: for an acquisition, from any moment of it before its decode step to its end, and for a
DECODE, from its acceptance. A new FRAME is the capture, which SHIFT still holds; on TIMEOUT, TO_STATE is the wait of the
last state `u` of the operation and BITCNT the bits captured by then. -/
def Obligations.EachResultLeavesWhatItsRowSays : Prop :=
  (∀ (n : Nat) (s t : State), Inv s → s.st ≠ .idle → s.st ≠ .decode → NoReset n s → endOfOperation n s = some t →
    t.st = .idle ∧ t.done = true ∧
    ((t.result = .ok ∧ t.toState = none ∧ t.bitcnt.toNat = 40 ∧ t.frame = t.shift ∧ checksumOk t.frame = true
        ∧ t.rxsum = field4 t.frame ∧ t.calcsum = field4 t.frame
        ∧ t.hum = field0 t.frame ++ field1 t.frame ∧ t.tsign = (field2 t.frame).getLsbD 7
        ∧ t.tmag = (field2 t.frame).extractLsb' 0 7 ++ field3 t.frame)
    ∨ (t.result = .timeout ∧ (∃ m u w, m < n ∧ runFor m s = .next u ∧ step u = .next t ∧ u.st = .wait w
          ∧ t.toState = some w ∧ t.bitcnt = u.bitcnt ∧ u.bitcnt.toNat < 40)
        ∧ t.frame = s.frame
        ∧ t.rxsum = s.rxsum ∧ t.calcsum = s.calcsum ∧ t.hum = s.hum ∧ t.tsign = s.tsign ∧ t.tmag = s.tmag)
    ∨ (t.result = .checksum ∧ t.toState = none ∧ t.bitcnt.toNat = 40 ∧ t.frame = t.shift ∧ checksumOk t.frame = false
        ∧ t.rxsum = field4 t.frame ∧ t.calcsum = wrappingSum t.frame ∧ t.hum = s.hum ∧ t.tsign = s.tsign
        ∧ t.tmag = s.tmag)))
  ∧ ∀ (s : State) (lo : BitVec 2) (ign : BitVec 28), Runs s → s.st = .idle → Presents s (.decode lo ign) → NoReset 2 s →
    ∃ t, runFor 2 s = .next t ∧ t.st = .idle ∧ t.done = true ∧ t.toState = none ∧ t.frame = s.frame
      ∧ t.bitcnt = s.bitcnt ∧ t.rxsum = field4 s.frame ∧ t.calcsum = wrappingSum s.frame
      ∧ ((t.result = .ok ∧ checksumOk s.frame = true ∧ t.hum = field0 s.frame ++ field1 s.frame
            ∧ t.tsign = (field2 s.frame).getLsbD 7 ∧ t.tmag = (field2 s.frame).extractLsb' 0 7 ++ field3 s.frame)
        ∨ (t.result = .checksum ∧ checksumOk s.frame = false ∧ t.hum = s.hum ∧ t.tsign = s.tsign ∧ t.tmag = s.tmag))

/-- R209: an ignored command sets CMDERR and changes nothing else: the cycle is otherwise the one with no operation. -/
def Obligations.IgnoredCommandSetsOnlyCmderr : Prop :=
  ∀ s : State, Runs s → IgnoresCommand s →
    ∃ u, step { s with hostIn := idlePorts :: s.hostIn.tail } = .next u ∧ step s = .next { u with cmderr := true }

/-- R38: what sets DONE and what clears it. -/
def Obligations.DoneIsStickyUntilAcknowledged : Prop :=
  State.reset.done = false
  ∧ (∀ s : State, s.ports.rst = true → ∃ t, step s = .next t ∧ t.done = false)
  ∧ ∀ s : State, Runs s → ∃ t, step s = .next t ∧ (t.done = true ↔ Finishes s
      ∨ (s.done = true ∧ ¬ Accepts s ∧ ¬ ∃ lo data, Presents s (.wrStatus lo data) ∧ data.getLsbD 1 = true))

/-- R39: RESULT is NONE from acceptance to the end of the operation, which sets it, and is otherwise kept. -/
def Obligations.ResultHoldsUntilTheNextCommand : Prop :=
  (State.reset.result = .none ∧ resultCode .none = 0#3 ∧ resultCode .ok = 1#3 ∧ resultCode .timeout = 2#3
    ∧ resultCode .checksum = 3#3 ∧ resultCode .invalidFrame = 4#3)
  ∧ (∀ s : State, s.ports.rst = true → ∃ t, step s = .next t ∧ t.result = .none)
  ∧ ∀ s : State, Runs s → ∃ t, step s = .next t
      ∧ (Accepts s → t.result = .none ∧ t.toState = none)
      ∧ (Finishes s → t.result = .ok ∨ t.result = .timeout ∨ t.result = .checksum)
      ∧ (¬ Accepts s → ¬ Finishes s → t.result = s.result ∧ t.toState = s.toState)

/-- R40: what sets CMDERR and what clears it. -/
def Obligations.CmderrIsStickyUntilAcknowledged : Prop :=
  State.reset.cmderr = false
  ∧ (∀ s : State, s.ports.rst = true → ∃ t, step s = .next t ∧ t.cmderr = false)
  ∧ ∀ s : State, Runs s → ∃ t, step s = .next t ∧ (t.cmderr = true ↔ IgnoresCommand s
      ∨ (s.cmderr = true ∧ ¬ ∃ lo data, Presents s (.wrStatus lo data) ∧ data.getLsbD 5 = true))

/-- R206: `irq` = DONE & CFG_IE; it rises in the cycle after `finish` when IE is 1, and falls only by the four events
the rule names. -/
def Obligations.InterruptIsALevel : Prop :=
  (∀ s : State, irq s = true ↔ s.done = true ∧ s.cfgIe = true)
  ∧ (∀ s : State, Runs s → Finishes s → ∃ t, step s = .next t ∧ irq t = t.cfgIe)
  ∧ ∀ s t : State, step s = .next t → irq s = true → irq t = false →
      s.ports.rst = true ∨ Accepts s ∨ (∃ lo data, Presents s (.wrStatus lo data) ∧ data.getLsbD 1 = true)
      ∨ ∃ lo data, Presents s (.wrConfig lo data) ∧ data.getLsbD 0 = false

/-- R210: the four same-cycle conflicts. -/
def Obligations.SameCycleConflicts : Prop :=
  (∀ s : State, s.ports.rst = true → ∃ t, step s = .next t ∧ t.st = .idle ∧ t.done = false ∧ t.cmderr = false
    ∧ step { s with hostIn := { idlePorts with rst := true } :: s.hostIn.tail } = .next t)
  ∧ (∀ (s : State) (lo : BitVec 2) (data : Word), Runs s → Finishes s → Presents s (.wrStatus lo data) →
      data.getLsbD 1 = true → ∃ t, step s = .next t ∧ t.done = true)
  ∧ (∀ (s : State) (lo : BitVec 2) (ign : BitVec 28), Runs s → Finishes s →
      Presents s (.measure lo ign) ∨ Presents s (.measureLegacy lo ign) ∨ Presents s (.decode lo ign) →
      ∃ t, step s = .next t ∧ t.cmderr = true ∧ t.st = .idle ∧ t.done = true)
  ∧ ∀ (s : State) (lo : BitVec 2) (data : Word), Runs s → Presents s (.wrConfig lo data) →
      ∃ t u, step s = .next t ∧ step { s with hostIn := idlePorts :: s.hostIn.tail } = .next u
        ∧ t = { u with cfgIe := data.getLsbD 0, cfgPace := data.getLsbD 1 }

/-! ## Rules of the whole machine -/

/-- R33, R34, R37: which cycles write FRAME, BITCNT and the checksum registers. -/
def Obligations.DataRegistersHaveOneWriterEach : Prop :=
  ∀ s t : State, s.ports.rst = false → step s = .next t →
    (t.frame ≠ s.frame →
      (s.st = .idle ∧ ∃ lo data, Presents s (.wrFrameHi lo data) ∨ Presents s (.wrFrameLo lo data))
      ∨ (s.st = .wait .bitF ∧ s.bitcnt.toNat = 39 ∧ t.st = .decode ∧ t.frame = t.shift))
    ∧ (t.rxsum ≠ s.rxsum ∨ t.calcsum ≠ s.calcsum → s.st = .decode)
    ∧ (t.bitcnt ≠ s.bitcnt ∨ t.shift ≠ s.shift →
        (Accepts s ∧ t.bitcnt = 0#6 ∧ t.shift = 0#40) ∨ (s.st = .wait .bitF ∧ t.bitcnt = s.bitcnt + 1#6))

/-- R27, R28, R246: the mode and the pacing of an operation are latched at its acceptance. -/
def Obligations.ModeAndPacingAreLatched : Prop :=
  ∀ s t : State, s.ports.rst = false → step s = .next t → t.modeB ≠ s.modeB ∨ t.paceL ≠ s.paceL →
    s.st = .idle ∧ t.paceL = s.cfgPace
      ∧ ∃ lo ign, (Presents s (.measure lo ign) ∧ t.modeB = true) ∨ (Presents s (.measureLegacy lo ign) ∧ t.modeB = false)

/-- R254, R246: while an operation runs, nothing the host presents or has written meanwhile slows, speeds or steers the
engine. Two busy states that agree but for `HostSide` have next states that agree but for it, and so for every cycle to
the end of the operation, which comes in the same cycle with the same result. -/
def Obligations.HostDoesNotDisturbARunningOperation : Prop :=
  (∀ s u : State, s.st ≠ .idle → HostSide s u → Runs s → Runs u →
    ∃ t v, step s = .next t ∧ step u = .next v ∧ HostSide t v ∧ (Finishes s → t.done = true ∧ v.done = true))
  ∧ ∀ (n : Nat) (s u t : State), s.st ≠ .idle → HostSide s u → s.result ≠ .invalidFrame → NoReset n s → NoReset n u →
      endOfOperation n s = some t →
      ∃ v, endOfOperation n u = some v ∧ HostSide t v ∧ t.done = true ∧ v.done = true

/-- R218: in IDLE with no operation nothing changes but SYNC (and `bus_rdata` is 0, R160). -/
def Obligations.IdleIsQuiescent : Prop :=
  ∀ s : State, Runs s → s.st = .idle → PresentsNothing s →
    step s = .next { s with
      sync0 := s.pinIn, sync1 := s.sync0, busRdata := 0#32
      hostIn := s.hostIn.tail, lineIn := s.lineIn.tail, cycle := s.cycle + 1 }

/-- R7, R87: no cycle, a reset included, changes the parameters. -/
def Obligations.ParametersNeverChange : Prop :=
  ∀ (n : Nat) (s t : State), runFor n s = .next t → t.params = s.params

/-- The reset state meets the invariant, for all legal parameters and for the implementation's. -/
def Obligations.ResetMeetsTheInvariant : Prop :=
  (∀ p : Params, legalParams p = true → Inv (State.resetWith p)) ∧ Inv State.reset

/-- Every step keeps the invariant (R30, R34, R42, R47, R112, R117, R148, R202, R240), from every state that meets it. -/
def Obligations.EveryStepKeepsTheInvariant : Prop :=
  ∀ s t : State, Inv s → step s = .next t → Inv t

/-- R30, D19: the width of TCNT cannot be observed: from any state that meets the invariant, a block with another legal
TW shows the same registers, pins and interrupt after every number of cycles. -/
def Obligations.CounterWidthIsUnobservable : Prop :=
  ∀ (n : Nat) (s : State) (tw : Nat), Inv s → legalParams { s.params with tw := tw } = true → s.tcnt ≤ 2 ^ tw - 1 →
    ∃ t u, runFor n s = .next t ∧ runFor n { s with params := { s.params with tw := tw } } = .next u
      ∧ observation t = observation u

/-- R46: the hidden state carries nothing from one operation to the next: two idle blocks that differ in it alone look
the same for ever, whatever the host and the line do. -/
def Obligations.HiddenStateCarriesNothingOver : Prop :=
  ∀ (n : Nat) (s : State) (arm paceL : Bool) (tcnt pcnt : Nat) (shift : Frame), s.st = .idle → s.result ≠ .invalidFrame →
    ∃ t u, runFor n s = .next t
      ∧ runFor n { s with arm := arm, paceL := paceL, tcnt := tcnt, pcnt := pcnt, shift := shift } = .next u
      ∧ observation t = observation u
end

