-- ==== Sys2Proof/Laws/Decode.lean ====
section
/-! SUPPORT. The fields of a word that is put together, and a word put together from its fields. -/

namespace Sys2Proof

@[simp] theorem brwWe_brw (we : Bool) (off : BitVec 6) (data : Word) : brwWe (brw we off data) = we := by
  simp only [brwWe, brw, BitVec.getLsbD_append, BitVec.getLsbD_ofBool]
  simp

@[simp] theorem brwOff_brw (we : Bool) (off : BitVec 6) (data : Word) : brwOff (brw we off data) = off := by
  apply BitVec.eq_of_getLsbD_eq
  intro i hi
  simp only [brwOff, brw, BitVec.getLsbD_extractLsb', BitVec.getLsbD_append]
  simp [hi]

@[simp] theorem brwData_brw (we : Bool) (off : BitVec 6) (data : Word) : brwData (brw we off data) = data := by
  apply BitVec.eq_of_getLsbD_eq
  intro i hi
  simp only [brwData, brw, BitVec.getLsbD_extractLsb', BitVec.getLsbD_append]
  simp [hi]

@[simp] theorem offReg_append (reg : BitVec 4) (lo : BitVec 2) : offReg (reg ++ lo) = reg := by revert reg lo; decide

@[simp] theorem offLow_append (reg : BitVec 4) (lo : BitVec 2) : offLow (reg ++ lo) = lo := by revert reg lo; decide

/-- An offset is its register and its ignored bits. -/
theorem off_fields (off : BitVec 6) : offReg off ++ offLow off = off := by revert off; decide

@[simp] theorem dataCmd_append (ign : BitVec 28) (cmd : BitVec 4) : dataCmd (ign ++ cmd) = cmd := by
  apply BitVec.eq_of_getLsbD_eq
  intro i hi
  simp only [dataCmd, BitVec.getLsbD_extractLsb', BitVec.getLsbD_append]
  simp [hi]

@[simp] theorem dataIgn_append (ign : BitVec 28) (cmd : BitVec 4) : dataIgn (ign ++ cmd) = ign := by
  apply BitVec.eq_of_getLsbD_eq
  intro i hi
  simp only [dataIgn, BitVec.getLsbD_extractLsb', BitVec.getLsbD_append]
  simp [hi]

/-- The data of a CTRL write is its ignored bits and its command. -/
theorem data_fields (data : Word) : dataIgn data ++ dataCmd data = data := by
  apply BitVec.eq_of_getLsbD_eq
  intro i hi
  simp only [dataIgn, dataCmd, BitVec.getLsbD_extractLsb', BitVec.getLsbD_append]
  by_cases h : i < 4
  · simp [h]
  · have : 4 + (i - 4) = i := by omega
    simp [h, this, show i - 4 < 28 by omega]

/-- The decoder on a word put together as a register write. -/
theorem decode_writeWord (reg : BitVec 4) (lo : BitVec 2) (data : Word) :
    decode (writeWord reg lo data) = decodeWrite reg lo data := by
  have we := brwWe_brw true (reg ++ lo) data
  have off := brwOff_brw true (reg ++ lo) data
  have dat := brwData_brw true (reg ++ lo) data
  have reg' := offReg_append reg lo
  have lo' := offLow_append reg lo
  unfold decode writeWord
  rw [we, off, dat, reg', lo']
  rfl

end Sys2Proof
end

