-- ==== Sys2Proof/Laws/State.lean ====
section
/-! SUPPORT. What each named update does to each field of State, and what the reset action leaves in each: true by
unfolding, once, so that no later proof unfolds an update. -/

namespace Sys2Proof.Machine

/-! ## beginCycle -/

@[simp] theorem beginCycle_params (s : State) : (beginCycle s).params = s.params := rfl
@[simp] theorem beginCycle_sync0 (s : State) : (beginCycle s).sync0 = s.sync0 := rfl
@[simp] theorem beginCycle_sync1 (s : State) : (beginCycle s).sync1 = s.sync1 := rfl
@[simp] theorem beginCycle_st (s : State) : (beginCycle s).st = s.st := rfl
@[simp] theorem beginCycle_modeB (s : State) : (beginCycle s).modeB = s.modeB := rfl
@[simp] theorem beginCycle_paceL (s : State) : (beginCycle s).paceL = s.paceL := rfl
@[simp] theorem beginCycle_arm (s : State) : (beginCycle s).arm = s.arm := rfl
@[simp] theorem beginCycle_tcnt (s : State) : (beginCycle s).tcnt = s.tcnt := rfl
@[simp] theorem beginCycle_pcnt (s : State) : (beginCycle s).pcnt = s.pcnt := rfl
@[simp] theorem beginCycle_shift (s : State) : (beginCycle s).shift = s.shift := rfl
@[simp] theorem beginCycle_frame (s : State) : (beginCycle s).frame = s.frame := rfl
@[simp] theorem beginCycle_bitcnt (s : State) : (beginCycle s).bitcnt = s.bitcnt := rfl
@[simp] theorem beginCycle_hum (s : State) : (beginCycle s).hum = s.hum := rfl
@[simp] theorem beginCycle_tsign (s : State) : (beginCycle s).tsign = s.tsign := rfl
@[simp] theorem beginCycle_tmag (s : State) : (beginCycle s).tmag = s.tmag := rfl
@[simp] theorem beginCycle_rxsum (s : State) : (beginCycle s).rxsum = s.rxsum := rfl
@[simp] theorem beginCycle_calcsum (s : State) : (beginCycle s).calcsum = s.calcsum := rfl
@[simp] theorem beginCycle_done (s : State) : (beginCycle s).done = s.done := rfl
@[simp] theorem beginCycle_result (s : State) : (beginCycle s).result = s.result := rfl
@[simp] theorem beginCycle_cmderr (s : State) : (beginCycle s).cmderr = s.cmderr := rfl
@[simp] theorem beginCycle_cfgIe (s : State) : (beginCycle s).cfgIe = s.cfgIe := rfl
@[simp] theorem beginCycle_cfgPace (s : State) : (beginCycle s).cfgPace = s.cfgPace := rfl
@[simp] theorem beginCycle_toState (s : State) : (beginCycle s).toState = s.toState := rfl
@[simp] theorem beginCycle_busRdata (s : State) : (beginCycle s).busRdata = 0#32 := rfl
@[simp] theorem beginCycle_hostIn (s : State) : (beginCycle s).hostIn = s.hostIn := rfl
@[simp] theorem beginCycle_lineIn (s : State) : (beginCycle s).lineIn = s.lineIn := rfl
@[simp] theorem beginCycle_cycle (s : State) : (beginCycle s).cycle = s.cycle := rfl

/-! ## finish -/

@[simp] theorem finish_params (c : ResultCode) (s : State) : (finish c s).params = s.params := rfl
@[simp] theorem finish_sync0 (c : ResultCode) (s : State) : (finish c s).sync0 = s.sync0 := rfl
@[simp] theorem finish_sync1 (c : ResultCode) (s : State) : (finish c s).sync1 = s.sync1 := rfl
@[simp] theorem finish_st (c : ResultCode) (s : State) : (finish c s).st = .idle := rfl
@[simp] theorem finish_modeB (c : ResultCode) (s : State) : (finish c s).modeB = s.modeB := rfl
@[simp] theorem finish_paceL (c : ResultCode) (s : State) : (finish c s).paceL = s.paceL := rfl
@[simp] theorem finish_arm (c : ResultCode) (s : State) : (finish c s).arm = s.arm := rfl
@[simp] theorem finish_tcnt (c : ResultCode) (s : State) : (finish c s).tcnt = s.tcnt := rfl
@[simp] theorem finish_pcnt (c : ResultCode) (s : State) : (finish c s).pcnt = s.pcnt := rfl
@[simp] theorem finish_shift (c : ResultCode) (s : State) : (finish c s).shift = s.shift := rfl
@[simp] theorem finish_frame (c : ResultCode) (s : State) : (finish c s).frame = s.frame := rfl
@[simp] theorem finish_bitcnt (c : ResultCode) (s : State) : (finish c s).bitcnt = s.bitcnt := rfl
@[simp] theorem finish_hum (c : ResultCode) (s : State) : (finish c s).hum = s.hum := rfl
@[simp] theorem finish_tsign (c : ResultCode) (s : State) : (finish c s).tsign = s.tsign := rfl
@[simp] theorem finish_tmag (c : ResultCode) (s : State) : (finish c s).tmag = s.tmag := rfl
@[simp] theorem finish_rxsum (c : ResultCode) (s : State) : (finish c s).rxsum = s.rxsum := rfl
@[simp] theorem finish_calcsum (c : ResultCode) (s : State) : (finish c s).calcsum = s.calcsum := rfl
@[simp] theorem finish_done (c : ResultCode) (s : State) : (finish c s).done = true := rfl
@[simp] theorem finish_result (c : ResultCode) (s : State) : (finish c s).result = c := rfl
@[simp] theorem finish_cmderr (c : ResultCode) (s : State) : (finish c s).cmderr = s.cmderr := rfl
@[simp] theorem finish_cfgIe (c : ResultCode) (s : State) : (finish c s).cfgIe = s.cfgIe := rfl
@[simp] theorem finish_cfgPace (c : ResultCode) (s : State) : (finish c s).cfgPace = s.cfgPace := rfl
@[simp] theorem finish_toState (c : ResultCode) (s : State) : (finish c s).toState = s.toState := rfl
@[simp] theorem finish_busRdata (c : ResultCode) (s : State) : (finish c s).busRdata = s.busRdata := rfl
@[simp] theorem finish_hostIn (c : ResultCode) (s : State) : (finish c s).hostIn = s.hostIn := rfl
@[simp] theorem finish_lineIn (c : ResultCode) (s : State) : (finish c s).lineIn = s.lineIn := rfl
@[simp] theorem finish_cycle (c : ResultCode) (s : State) : (finish c s).cycle = s.cycle := rfl

/-! ## acknowledge -/

@[simp] theorem acknowledge_params (d : Word) (s : State) : (acknowledge d s).params = s.params := rfl
@[simp] theorem acknowledge_sync0 (d : Word) (s : State) : (acknowledge d s).sync0 = s.sync0 := rfl
@[simp] theorem acknowledge_sync1 (d : Word) (s : State) : (acknowledge d s).sync1 = s.sync1 := rfl
@[simp] theorem acknowledge_st (d : Word) (s : State) : (acknowledge d s).st = s.st := rfl
@[simp] theorem acknowledge_modeB (d : Word) (s : State) : (acknowledge d s).modeB = s.modeB := rfl
@[simp] theorem acknowledge_paceL (d : Word) (s : State) : (acknowledge d s).paceL = s.paceL := rfl
@[simp] theorem acknowledge_arm (d : Word) (s : State) : (acknowledge d s).arm = s.arm := rfl
@[simp] theorem acknowledge_tcnt (d : Word) (s : State) : (acknowledge d s).tcnt = s.tcnt := rfl
@[simp] theorem acknowledge_pcnt (d : Word) (s : State) : (acknowledge d s).pcnt = s.pcnt := rfl
@[simp] theorem acknowledge_shift (d : Word) (s : State) : (acknowledge d s).shift = s.shift := rfl
@[simp] theorem acknowledge_frame (d : Word) (s : State) : (acknowledge d s).frame = s.frame := rfl
@[simp] theorem acknowledge_bitcnt (d : Word) (s : State) : (acknowledge d s).bitcnt = s.bitcnt := rfl
@[simp] theorem acknowledge_hum (d : Word) (s : State) : (acknowledge d s).hum = s.hum := rfl
@[simp] theorem acknowledge_tsign (d : Word) (s : State) : (acknowledge d s).tsign = s.tsign := rfl
@[simp] theorem acknowledge_tmag (d : Word) (s : State) : (acknowledge d s).tmag = s.tmag := rfl
@[simp] theorem acknowledge_rxsum (d : Word) (s : State) : (acknowledge d s).rxsum = s.rxsum := rfl
@[simp] theorem acknowledge_calcsum (d : Word) (s : State) : (acknowledge d s).calcsum = s.calcsum := rfl
@[simp] theorem acknowledge_done (d : Word) (s : State) : (acknowledge d s).done = (s.done && !clrDone d) := rfl
@[simp] theorem acknowledge_result (d : Word) (s : State) : (acknowledge d s).result = s.result := rfl
@[simp] theorem acknowledge_cmderr (d : Word) (s : State) : (acknowledge d s).cmderr = (s.cmderr && !clrCmderr d) := rfl
@[simp] theorem acknowledge_cfgIe (d : Word) (s : State) : (acknowledge d s).cfgIe = s.cfgIe := rfl
@[simp] theorem acknowledge_cfgPace (d : Word) (s : State) : (acknowledge d s).cfgPace = s.cfgPace := rfl
@[simp] theorem acknowledge_toState (d : Word) (s : State) : (acknowledge d s).toState = s.toState := rfl
@[simp] theorem acknowledge_busRdata (d : Word) (s : State) : (acknowledge d s).busRdata = s.busRdata := rfl
@[simp] theorem acknowledge_hostIn (d : Word) (s : State) : (acknowledge d s).hostIn = s.hostIn := rfl
@[simp] theorem acknowledge_lineIn (d : Word) (s : State) : (acknowledge d s).lineIn = s.lineIn := rfl
@[simp] theorem acknowledge_cycle (d : Word) (s : State) : (acknowledge d s).cycle = s.cycle := rfl

/-! ## ignoreCommand -/

@[simp] theorem ignoreCommand_params (s : State) : (ignoreCommand s).params = s.params := rfl
@[simp] theorem ignoreCommand_sync0 (s : State) : (ignoreCommand s).sync0 = s.sync0 := rfl
@[simp] theorem ignoreCommand_sync1 (s : State) : (ignoreCommand s).sync1 = s.sync1 := rfl
@[simp] theorem ignoreCommand_st (s : State) : (ignoreCommand s).st = s.st := rfl
@[simp] theorem ignoreCommand_modeB (s : State) : (ignoreCommand s).modeB = s.modeB := rfl
@[simp] theorem ignoreCommand_paceL (s : State) : (ignoreCommand s).paceL = s.paceL := rfl
@[simp] theorem ignoreCommand_arm (s : State) : (ignoreCommand s).arm = s.arm := rfl
@[simp] theorem ignoreCommand_tcnt (s : State) : (ignoreCommand s).tcnt = s.tcnt := rfl
@[simp] theorem ignoreCommand_pcnt (s : State) : (ignoreCommand s).pcnt = s.pcnt := rfl
@[simp] theorem ignoreCommand_shift (s : State) : (ignoreCommand s).shift = s.shift := rfl
@[simp] theorem ignoreCommand_frame (s : State) : (ignoreCommand s).frame = s.frame := rfl
@[simp] theorem ignoreCommand_bitcnt (s : State) : (ignoreCommand s).bitcnt = s.bitcnt := rfl
@[simp] theorem ignoreCommand_hum (s : State) : (ignoreCommand s).hum = s.hum := rfl
@[simp] theorem ignoreCommand_tsign (s : State) : (ignoreCommand s).tsign = s.tsign := rfl
@[simp] theorem ignoreCommand_tmag (s : State) : (ignoreCommand s).tmag = s.tmag := rfl
@[simp] theorem ignoreCommand_rxsum (s : State) : (ignoreCommand s).rxsum = s.rxsum := rfl
@[simp] theorem ignoreCommand_calcsum (s : State) : (ignoreCommand s).calcsum = s.calcsum := rfl
@[simp] theorem ignoreCommand_done (s : State) : (ignoreCommand s).done = s.done := rfl
@[simp] theorem ignoreCommand_result (s : State) : (ignoreCommand s).result = s.result := rfl
@[simp] theorem ignoreCommand_cmderr (s : State) : (ignoreCommand s).cmderr = true := rfl
@[simp] theorem ignoreCommand_cfgIe (s : State) : (ignoreCommand s).cfgIe = s.cfgIe := rfl
@[simp] theorem ignoreCommand_cfgPace (s : State) : (ignoreCommand s).cfgPace = s.cfgPace := rfl
@[simp] theorem ignoreCommand_toState (s : State) : (ignoreCommand s).toState = s.toState := rfl
@[simp] theorem ignoreCommand_busRdata (s : State) : (ignoreCommand s).busRdata = s.busRdata := rfl
@[simp] theorem ignoreCommand_hostIn (s : State) : (ignoreCommand s).hostIn = s.hostIn := rfl
@[simp] theorem ignoreCommand_lineIn (s : State) : (ignoreCommand s).lineIn = s.lineIn := rfl
@[simp] theorem ignoreCommand_cycle (s : State) : (ignoreCommand s).cycle = s.cycle := rfl

/-! ## clearResult -/

@[simp] theorem clearResult_params (s : State) : (clearResult s).params = s.params := rfl
@[simp] theorem clearResult_sync0 (s : State) : (clearResult s).sync0 = s.sync0 := rfl
@[simp] theorem clearResult_sync1 (s : State) : (clearResult s).sync1 = s.sync1 := rfl
@[simp] theorem clearResult_st (s : State) : (clearResult s).st = s.st := rfl
@[simp] theorem clearResult_modeB (s : State) : (clearResult s).modeB = s.modeB := rfl
@[simp] theorem clearResult_paceL (s : State) : (clearResult s).paceL = s.paceL := rfl
@[simp] theorem clearResult_arm (s : State) : (clearResult s).arm = s.arm := rfl
@[simp] theorem clearResult_tcnt (s : State) : (clearResult s).tcnt = s.tcnt := rfl
@[simp] theorem clearResult_pcnt (s : State) : (clearResult s).pcnt = s.pcnt := rfl
@[simp] theorem clearResult_shift (s : State) : (clearResult s).shift = s.shift := rfl
@[simp] theorem clearResult_frame (s : State) : (clearResult s).frame = s.frame := rfl
@[simp] theorem clearResult_bitcnt (s : State) : (clearResult s).bitcnt = s.bitcnt := rfl
@[simp] theorem clearResult_hum (s : State) : (clearResult s).hum = s.hum := rfl
@[simp] theorem clearResult_tsign (s : State) : (clearResult s).tsign = s.tsign := rfl
@[simp] theorem clearResult_tmag (s : State) : (clearResult s).tmag = s.tmag := rfl
@[simp] theorem clearResult_rxsum (s : State) : (clearResult s).rxsum = s.rxsum := rfl
@[simp] theorem clearResult_calcsum (s : State) : (clearResult s).calcsum = s.calcsum := rfl
@[simp] theorem clearResult_done (s : State) : (clearResult s).done = false := rfl
@[simp] theorem clearResult_result (s : State) : (clearResult s).result = .none := rfl
@[simp] theorem clearResult_cmderr (s : State) : (clearResult s).cmderr = s.cmderr := rfl
@[simp] theorem clearResult_cfgIe (s : State) : (clearResult s).cfgIe = s.cfgIe := rfl
@[simp] theorem clearResult_cfgPace (s : State) : (clearResult s).cfgPace = s.cfgPace := rfl
@[simp] theorem clearResult_toState (s : State) : (clearResult s).toState = none := rfl
@[simp] theorem clearResult_busRdata (s : State) : (clearResult s).busRdata = s.busRdata := rfl
@[simp] theorem clearResult_hostIn (s : State) : (clearResult s).hostIn = s.hostIn := rfl
@[simp] theorem clearResult_lineIn (s : State) : (clearResult s).lineIn = s.lineIn := rfl
@[simp] theorem clearResult_cycle (s : State) : (clearResult s).cycle = s.cycle := rfl

/-! ## acceptAcquisition -/

@[simp] theorem acceptAcquisition_params (b : Bool) (s : State) : (acceptAcquisition b s).params = s.params := rfl
@[simp] theorem acceptAcquisition_sync0 (b : Bool) (s : State) : (acceptAcquisition b s).sync0 = s.sync0 := rfl
@[simp] theorem acceptAcquisition_sync1 (b : Bool) (s : State) : (acceptAcquisition b s).sync1 = s.sync1 := rfl
@[simp] theorem acceptAcquisition_st (b : Bool) (s : State) : (acceptAcquisition b s).st = .trigH0 := rfl
@[simp] theorem acceptAcquisition_modeB (b : Bool) (s : State) : (acceptAcquisition b s).modeB = b := rfl
@[simp] theorem acceptAcquisition_paceL (b : Bool) (s : State) : (acceptAcquisition b s).paceL = s.cfgPace := rfl
@[simp] theorem acceptAcquisition_arm (b : Bool) (s : State) : (acceptAcquisition b s).arm = s.arm := rfl
@[simp] theorem acceptAcquisition_tcnt (b : Bool) (s : State) : (acceptAcquisition b s).tcnt = 0 := rfl
@[simp] theorem acceptAcquisition_pcnt (b : Bool) (s : State) : (acceptAcquisition b s).pcnt = s.pcnt := rfl
@[simp] theorem acceptAcquisition_shift (b : Bool) (s : State) : (acceptAcquisition b s).shift = 0#40 := rfl
@[simp] theorem acceptAcquisition_frame (b : Bool) (s : State) : (acceptAcquisition b s).frame = s.frame := rfl
@[simp] theorem acceptAcquisition_bitcnt (b : Bool) (s : State) : (acceptAcquisition b s).bitcnt = 0#6 := rfl
@[simp] theorem acceptAcquisition_hum (b : Bool) (s : State) : (acceptAcquisition b s).hum = s.hum := rfl
@[simp] theorem acceptAcquisition_tsign (b : Bool) (s : State) : (acceptAcquisition b s).tsign = s.tsign := rfl
@[simp] theorem acceptAcquisition_tmag (b : Bool) (s : State) : (acceptAcquisition b s).tmag = s.tmag := rfl
@[simp] theorem acceptAcquisition_rxsum (b : Bool) (s : State) : (acceptAcquisition b s).rxsum = s.rxsum := rfl
@[simp] theorem acceptAcquisition_calcsum (b : Bool) (s : State) : (acceptAcquisition b s).calcsum = s.calcsum := rfl
@[simp] theorem acceptAcquisition_done (b : Bool) (s : State) : (acceptAcquisition b s).done = false := rfl
@[simp] theorem acceptAcquisition_result (b : Bool) (s : State) : (acceptAcquisition b s).result = .none := rfl
@[simp] theorem acceptAcquisition_cmderr (b : Bool) (s : State) : (acceptAcquisition b s).cmderr = s.cmderr := rfl
@[simp] theorem acceptAcquisition_cfgIe (b : Bool) (s : State) : (acceptAcquisition b s).cfgIe = s.cfgIe := rfl
@[simp] theorem acceptAcquisition_cfgPace (b : Bool) (s : State) : (acceptAcquisition b s).cfgPace = s.cfgPace := rfl
@[simp] theorem acceptAcquisition_toState (b : Bool) (s : State) : (acceptAcquisition b s).toState = none := rfl
@[simp] theorem acceptAcquisition_busRdata (b : Bool) (s : State) : (acceptAcquisition b s).busRdata = s.busRdata := rfl
@[simp] theorem acceptAcquisition_hostIn (b : Bool) (s : State) : (acceptAcquisition b s).hostIn = s.hostIn := rfl
@[simp] theorem acceptAcquisition_lineIn (b : Bool) (s : State) : (acceptAcquisition b s).lineIn = s.lineIn := rfl
@[simp] theorem acceptAcquisition_cycle (b : Bool) (s : State) : (acceptAcquisition b s).cycle = s.cycle := rfl

/-! ## acceptDecode -/

@[simp] theorem acceptDecode_params (s : State) : (acceptDecode s).params = s.params := rfl
@[simp] theorem acceptDecode_sync0 (s : State) : (acceptDecode s).sync0 = s.sync0 := rfl
@[simp] theorem acceptDecode_sync1 (s : State) : (acceptDecode s).sync1 = s.sync1 := rfl
@[simp] theorem acceptDecode_st (s : State) : (acceptDecode s).st = .decode := rfl
@[simp] theorem acceptDecode_modeB (s : State) : (acceptDecode s).modeB = s.modeB := rfl
@[simp] theorem acceptDecode_paceL (s : State) : (acceptDecode s).paceL = s.paceL := rfl
@[simp] theorem acceptDecode_arm (s : State) : (acceptDecode s).arm = s.arm := rfl
@[simp] theorem acceptDecode_tcnt (s : State) : (acceptDecode s).tcnt = s.tcnt := rfl
@[simp] theorem acceptDecode_pcnt (s : State) : (acceptDecode s).pcnt = s.pcnt := rfl
@[simp] theorem acceptDecode_shift (s : State) : (acceptDecode s).shift = s.shift := rfl
@[simp] theorem acceptDecode_frame (s : State) : (acceptDecode s).frame = s.frame := rfl
@[simp] theorem acceptDecode_bitcnt (s : State) : (acceptDecode s).bitcnt = s.bitcnt := rfl
@[simp] theorem acceptDecode_hum (s : State) : (acceptDecode s).hum = s.hum := rfl
@[simp] theorem acceptDecode_tsign (s : State) : (acceptDecode s).tsign = s.tsign := rfl
@[simp] theorem acceptDecode_tmag (s : State) : (acceptDecode s).tmag = s.tmag := rfl
@[simp] theorem acceptDecode_rxsum (s : State) : (acceptDecode s).rxsum = s.rxsum := rfl
@[simp] theorem acceptDecode_calcsum (s : State) : (acceptDecode s).calcsum = s.calcsum := rfl
@[simp] theorem acceptDecode_done (s : State) : (acceptDecode s).done = false := rfl
@[simp] theorem acceptDecode_result (s : State) : (acceptDecode s).result = .none := rfl
@[simp] theorem acceptDecode_cmderr (s : State) : (acceptDecode s).cmderr = s.cmderr := rfl
@[simp] theorem acceptDecode_cfgIe (s : State) : (acceptDecode s).cfgIe = s.cfgIe := rfl
@[simp] theorem acceptDecode_cfgPace (s : State) : (acceptDecode s).cfgPace = s.cfgPace := rfl
@[simp] theorem acceptDecode_toState (s : State) : (acceptDecode s).toState = none := rfl
@[simp] theorem acceptDecode_busRdata (s : State) : (acceptDecode s).busRdata = s.busRdata := rfl
@[simp] theorem acceptDecode_hostIn (s : State) : (acceptDecode s).hostIn = s.hostIn := rfl
@[simp] theorem acceptDecode_lineIn (s : State) : (acceptDecode s).lineIn = s.lineIn := rfl
@[simp] theorem acceptDecode_cycle (s : State) : (acceptDecode s).cycle = s.cycle := rfl

/-! ## enterWait -/

@[simp] theorem enterWait_params (w : EdgeWait) (s : State) : (enterWait w s).params = s.params := rfl
@[simp] theorem enterWait_sync0 (w : EdgeWait) (s : State) : (enterWait w s).sync0 = s.sync0 := rfl
@[simp] theorem enterWait_sync1 (w : EdgeWait) (s : State) : (enterWait w s).sync1 = s.sync1 := rfl
@[simp] theorem enterWait_st (w : EdgeWait) (s : State) : (enterWait w s).st = .wait w := rfl
@[simp] theorem enterWait_modeB (w : EdgeWait) (s : State) : (enterWait w s).modeB = s.modeB := rfl
@[simp] theorem enterWait_paceL (w : EdgeWait) (s : State) : (enterWait w s).paceL = s.paceL := rfl
@[simp] theorem enterWait_arm (w : EdgeWait) (s : State) : (enterWait w s).arm = false := rfl
@[simp] theorem enterWait_tcnt (w : EdgeWait) (s : State) : (enterWait w s).tcnt = 0 := rfl
@[simp] theorem enterWait_pcnt (w : EdgeWait) (s : State) : (enterWait w s).pcnt = 0 := rfl
@[simp] theorem enterWait_shift (w : EdgeWait) (s : State) : (enterWait w s).shift = s.shift := rfl
@[simp] theorem enterWait_frame (w : EdgeWait) (s : State) : (enterWait w s).frame = s.frame := rfl
@[simp] theorem enterWait_bitcnt (w : EdgeWait) (s : State) : (enterWait w s).bitcnt = s.bitcnt := rfl
@[simp] theorem enterWait_hum (w : EdgeWait) (s : State) : (enterWait w s).hum = s.hum := rfl
@[simp] theorem enterWait_tsign (w : EdgeWait) (s : State) : (enterWait w s).tsign = s.tsign := rfl
@[simp] theorem enterWait_tmag (w : EdgeWait) (s : State) : (enterWait w s).tmag = s.tmag := rfl
@[simp] theorem enterWait_rxsum (w : EdgeWait) (s : State) : (enterWait w s).rxsum = s.rxsum := rfl
@[simp] theorem enterWait_calcsum (w : EdgeWait) (s : State) : (enterWait w s).calcsum = s.calcsum := rfl
@[simp] theorem enterWait_done (w : EdgeWait) (s : State) : (enterWait w s).done = s.done := rfl
@[simp] theorem enterWait_result (w : EdgeWait) (s : State) : (enterWait w s).result = s.result := rfl
@[simp] theorem enterWait_cmderr (w : EdgeWait) (s : State) : (enterWait w s).cmderr = s.cmderr := rfl
@[simp] theorem enterWait_cfgIe (w : EdgeWait) (s : State) : (enterWait w s).cfgIe = s.cfgIe := rfl
@[simp] theorem enterWait_cfgPace (w : EdgeWait) (s : State) : (enterWait w s).cfgPace = s.cfgPace := rfl
@[simp] theorem enterWait_toState (w : EdgeWait) (s : State) : (enterWait w s).toState = s.toState := rfl
@[simp] theorem enterWait_busRdata (w : EdgeWait) (s : State) : (enterWait w s).busRdata = s.busRdata := rfl
@[simp] theorem enterWait_hostIn (w : EdgeWait) (s : State) : (enterWait w s).hostIn = s.hostIn := rfl
@[simp] theorem enterWait_lineIn (w : EdgeWait) (s : State) : (enterWait w s).lineIn = s.lineIn := rfl
@[simp] theorem enterWait_cycle (w : EdgeWait) (s : State) : (enterWait w s).cycle = s.cycle := rfl

/-! ## consumeInputs -/

@[simp] theorem consumeInputs_params (s : State) : (consumeInputs s).params = s.params := rfl
@[simp] theorem consumeInputs_sync0 (s : State) : (consumeInputs s).sync0 = s.sync0 := rfl
@[simp] theorem consumeInputs_sync1 (s : State) : (consumeInputs s).sync1 = s.sync1 := rfl
@[simp] theorem consumeInputs_st (s : State) : (consumeInputs s).st = s.st := rfl
@[simp] theorem consumeInputs_modeB (s : State) : (consumeInputs s).modeB = s.modeB := rfl
@[simp] theorem consumeInputs_paceL (s : State) : (consumeInputs s).paceL = s.paceL := rfl
@[simp] theorem consumeInputs_arm (s : State) : (consumeInputs s).arm = s.arm := rfl
@[simp] theorem consumeInputs_tcnt (s : State) : (consumeInputs s).tcnt = s.tcnt := rfl
@[simp] theorem consumeInputs_pcnt (s : State) : (consumeInputs s).pcnt = s.pcnt := rfl
@[simp] theorem consumeInputs_shift (s : State) : (consumeInputs s).shift = s.shift := rfl
@[simp] theorem consumeInputs_frame (s : State) : (consumeInputs s).frame = s.frame := rfl
@[simp] theorem consumeInputs_bitcnt (s : State) : (consumeInputs s).bitcnt = s.bitcnt := rfl
@[simp] theorem consumeInputs_hum (s : State) : (consumeInputs s).hum = s.hum := rfl
@[simp] theorem consumeInputs_tsign (s : State) : (consumeInputs s).tsign = s.tsign := rfl
@[simp] theorem consumeInputs_tmag (s : State) : (consumeInputs s).tmag = s.tmag := rfl
@[simp] theorem consumeInputs_rxsum (s : State) : (consumeInputs s).rxsum = s.rxsum := rfl
@[simp] theorem consumeInputs_calcsum (s : State) : (consumeInputs s).calcsum = s.calcsum := rfl
@[simp] theorem consumeInputs_done (s : State) : (consumeInputs s).done = s.done := rfl
@[simp] theorem consumeInputs_result (s : State) : (consumeInputs s).result = s.result := rfl
@[simp] theorem consumeInputs_cmderr (s : State) : (consumeInputs s).cmderr = s.cmderr := rfl
@[simp] theorem consumeInputs_cfgIe (s : State) : (consumeInputs s).cfgIe = s.cfgIe := rfl
@[simp] theorem consumeInputs_cfgPace (s : State) : (consumeInputs s).cfgPace = s.cfgPace := rfl
@[simp] theorem consumeInputs_toState (s : State) : (consumeInputs s).toState = s.toState := rfl
@[simp] theorem consumeInputs_busRdata (s : State) : (consumeInputs s).busRdata = s.busRdata := rfl
@[simp] theorem consumeInputs_hostIn (s : State) : (consumeInputs s).hostIn = s.hostIn.tail := rfl
@[simp] theorem consumeInputs_lineIn (s : State) : (consumeInputs s).lineIn = s.lineIn.tail := rfl
@[simp] theorem consumeInputs_cycle (s : State) : (consumeInputs s).cycle = s.cycle + 1 := rfl

/-! ## synchronize -/

@[simp] theorem synchronize_params (s h : State) : (synchronize s h).params = h.params := rfl
@[simp] theorem synchronize_sync0 (s h : State) : (synchronize s h).sync0 = s.pinIn := rfl
@[simp] theorem synchronize_sync1 (s h : State) : (synchronize s h).sync1 = s.sync0 := rfl
@[simp] theorem synchronize_st (s h : State) : (synchronize s h).st = h.st := rfl
@[simp] theorem synchronize_modeB (s h : State) : (synchronize s h).modeB = h.modeB := rfl
@[simp] theorem synchronize_paceL (s h : State) : (synchronize s h).paceL = h.paceL := rfl
@[simp] theorem synchronize_arm (s h : State) : (synchronize s h).arm = h.arm := rfl
@[simp] theorem synchronize_tcnt (s h : State) : (synchronize s h).tcnt = h.tcnt := rfl
@[simp] theorem synchronize_pcnt (s h : State) : (synchronize s h).pcnt = h.pcnt := rfl
@[simp] theorem synchronize_shift (s h : State) : (synchronize s h).shift = h.shift := rfl
@[simp] theorem synchronize_frame (s h : State) : (synchronize s h).frame = h.frame := rfl
@[simp] theorem synchronize_bitcnt (s h : State) : (synchronize s h).bitcnt = h.bitcnt := rfl
@[simp] theorem synchronize_hum (s h : State) : (synchronize s h).hum = h.hum := rfl
@[simp] theorem synchronize_tsign (s h : State) : (synchronize s h).tsign = h.tsign := rfl
@[simp] theorem synchronize_tmag (s h : State) : (synchronize s h).tmag = h.tmag := rfl
@[simp] theorem synchronize_rxsum (s h : State) : (synchronize s h).rxsum = h.rxsum := rfl
@[simp] theorem synchronize_calcsum (s h : State) : (synchronize s h).calcsum = h.calcsum := rfl
@[simp] theorem synchronize_done (s h : State) : (synchronize s h).done = h.done := rfl
@[simp] theorem synchronize_result (s h : State) : (synchronize s h).result = h.result := rfl
@[simp] theorem synchronize_cmderr (s h : State) : (synchronize s h).cmderr = h.cmderr := rfl
@[simp] theorem synchronize_cfgIe (s h : State) : (synchronize s h).cfgIe = h.cfgIe := rfl
@[simp] theorem synchronize_cfgPace (s h : State) : (synchronize s h).cfgPace = h.cfgPace := rfl
@[simp] theorem synchronize_toState (s h : State) : (synchronize s h).toState = h.toState := rfl
@[simp] theorem synchronize_busRdata (s h : State) : (synchronize s h).busRdata = h.busRdata := rfl
@[simp] theorem synchronize_hostIn (s h : State) : (synchronize s h).hostIn = h.hostIn := rfl
@[simp] theorem synchronize_lineIn (s h : State) : (synchronize s h).lineIn = h.lineIn := rfl
@[simp] theorem synchronize_cycle (s h : State) : (synchronize s h).cycle = h.cycle := rfl

/-! ## trigH0Step -/

@[simp] theorem trigH0Step_params (s : State) : (trigH0Step s).params = s.params := rfl
@[simp] theorem trigH0Step_sync0 (s : State) : (trigH0Step s).sync0 = s.sync0 := rfl
@[simp] theorem trigH0Step_sync1 (s : State) : (trigH0Step s).sync1 = s.sync1 := rfl
@[simp] theorem trigH0Step_st (s : State) : (trigH0Step s).st = .trigOe := rfl
@[simp] theorem trigH0Step_modeB (s : State) : (trigH0Step s).modeB = s.modeB := rfl
@[simp] theorem trigH0Step_paceL (s : State) : (trigH0Step s).paceL = s.paceL := rfl
@[simp] theorem trigH0Step_arm (s : State) : (trigH0Step s).arm = s.arm := rfl
@[simp] theorem trigH0Step_tcnt (s : State) : (trigH0Step s).tcnt = s.tcnt := rfl
@[simp] theorem trigH0Step_pcnt (s : State) : (trigH0Step s).pcnt = s.pcnt := rfl
@[simp] theorem trigH0Step_shift (s : State) : (trigH0Step s).shift = s.shift := rfl
@[simp] theorem trigH0Step_frame (s : State) : (trigH0Step s).frame = s.frame := rfl
@[simp] theorem trigH0Step_bitcnt (s : State) : (trigH0Step s).bitcnt = s.bitcnt := rfl
@[simp] theorem trigH0Step_hum (s : State) : (trigH0Step s).hum = s.hum := rfl
@[simp] theorem trigH0Step_tsign (s : State) : (trigH0Step s).tsign = s.tsign := rfl
@[simp] theorem trigH0Step_tmag (s : State) : (trigH0Step s).tmag = s.tmag := rfl
@[simp] theorem trigH0Step_rxsum (s : State) : (trigH0Step s).rxsum = s.rxsum := rfl
@[simp] theorem trigH0Step_calcsum (s : State) : (trigH0Step s).calcsum = s.calcsum := rfl
@[simp] theorem trigH0Step_done (s : State) : (trigH0Step s).done = s.done := rfl
@[simp] theorem trigH0Step_result (s : State) : (trigH0Step s).result = s.result := rfl
@[simp] theorem trigH0Step_cmderr (s : State) : (trigH0Step s).cmderr = s.cmderr := rfl
@[simp] theorem trigH0Step_cfgIe (s : State) : (trigH0Step s).cfgIe = s.cfgIe := rfl
@[simp] theorem trigH0Step_cfgPace (s : State) : (trigH0Step s).cfgPace = s.cfgPace := rfl
@[simp] theorem trigH0Step_toState (s : State) : (trigH0Step s).toState = s.toState := rfl
@[simp] theorem trigH0Step_busRdata (s : State) : (trigH0Step s).busRdata = s.busRdata := rfl
@[simp] theorem trigH0Step_hostIn (s : State) : (trigH0Step s).hostIn = s.hostIn := rfl
@[simp] theorem trigH0Step_lineIn (s : State) : (trigH0Step s).lineIn = s.lineIn := rfl
@[simp] theorem trigH0Step_cycle (s : State) : (trigH0Step s).cycle = s.cycle := rfl

/-! ## trigOeStep -/

@[simp] theorem trigOeStep_params (s : State) : (trigOeStep s).params = s.params := rfl
@[simp] theorem trigOeStep_sync0 (s : State) : (trigOeStep s).sync0 = s.sync0 := rfl
@[simp] theorem trigOeStep_sync1 (s : State) : (trigOeStep s).sync1 = s.sync1 := rfl
@[simp] theorem trigOeStep_st (s : State) : (trigOeStep s).st = .trigLow := rfl
@[simp] theorem trigOeStep_modeB (s : State) : (trigOeStep s).modeB = s.modeB := rfl
@[simp] theorem trigOeStep_paceL (s : State) : (trigOeStep s).paceL = s.paceL := rfl
@[simp] theorem trigOeStep_arm (s : State) : (trigOeStep s).arm = s.arm := rfl
@[simp] theorem trigOeStep_tcnt (s : State) : (trigOeStep s).tcnt = 0 := rfl
@[simp] theorem trigOeStep_pcnt (s : State) : (trigOeStep s).pcnt = s.pcnt := rfl
@[simp] theorem trigOeStep_shift (s : State) : (trigOeStep s).shift = s.shift := rfl
@[simp] theorem trigOeStep_frame (s : State) : (trigOeStep s).frame = s.frame := rfl
@[simp] theorem trigOeStep_bitcnt (s : State) : (trigOeStep s).bitcnt = s.bitcnt := rfl
@[simp] theorem trigOeStep_hum (s : State) : (trigOeStep s).hum = s.hum := rfl
@[simp] theorem trigOeStep_tsign (s : State) : (trigOeStep s).tsign = s.tsign := rfl
@[simp] theorem trigOeStep_tmag (s : State) : (trigOeStep s).tmag = s.tmag := rfl
@[simp] theorem trigOeStep_rxsum (s : State) : (trigOeStep s).rxsum = s.rxsum := rfl
@[simp] theorem trigOeStep_calcsum (s : State) : (trigOeStep s).calcsum = s.calcsum := rfl
@[simp] theorem trigOeStep_done (s : State) : (trigOeStep s).done = s.done := rfl
@[simp] theorem trigOeStep_result (s : State) : (trigOeStep s).result = s.result := rfl
@[simp] theorem trigOeStep_cmderr (s : State) : (trigOeStep s).cmderr = s.cmderr := rfl
@[simp] theorem trigOeStep_cfgIe (s : State) : (trigOeStep s).cfgIe = s.cfgIe := rfl
@[simp] theorem trigOeStep_cfgPace (s : State) : (trigOeStep s).cfgPace = s.cfgPace := rfl
@[simp] theorem trigOeStep_toState (s : State) : (trigOeStep s).toState = s.toState := rfl
@[simp] theorem trigOeStep_busRdata (s : State) : (trigOeStep s).busRdata = s.busRdata := rfl
@[simp] theorem trigOeStep_hostIn (s : State) : (trigOeStep s).hostIn = s.hostIn := rfl
@[simp] theorem trigOeStep_lineIn (s : State) : (trigOeStep s).lineIn = s.lineIn := rfl
@[simp] theorem trigOeStep_cycle (s : State) : (trigOeStep s).cycle = s.cycle := rfl

/-! ## recordSums -/

@[simp] theorem recordSums_params (f : Frame) (s : State) : (recordSums f s).params = s.params := rfl
@[simp] theorem recordSums_sync0 (f : Frame) (s : State) : (recordSums f s).sync0 = s.sync0 := rfl
@[simp] theorem recordSums_sync1 (f : Frame) (s : State) : (recordSums f s).sync1 = s.sync1 := rfl
@[simp] theorem recordSums_st (f : Frame) (s : State) : (recordSums f s).st = s.st := rfl
@[simp] theorem recordSums_modeB (f : Frame) (s : State) : (recordSums f s).modeB = s.modeB := rfl
@[simp] theorem recordSums_paceL (f : Frame) (s : State) : (recordSums f s).paceL = s.paceL := rfl
@[simp] theorem recordSums_arm (f : Frame) (s : State) : (recordSums f s).arm = s.arm := rfl
@[simp] theorem recordSums_tcnt (f : Frame) (s : State) : (recordSums f s).tcnt = s.tcnt := rfl
@[simp] theorem recordSums_pcnt (f : Frame) (s : State) : (recordSums f s).pcnt = s.pcnt := rfl
@[simp] theorem recordSums_shift (f : Frame) (s : State) : (recordSums f s).shift = s.shift := rfl
@[simp] theorem recordSums_frame (f : Frame) (s : State) : (recordSums f s).frame = s.frame := rfl
@[simp] theorem recordSums_bitcnt (f : Frame) (s : State) : (recordSums f s).bitcnt = s.bitcnt := rfl
@[simp] theorem recordSums_hum (f : Frame) (s : State) : (recordSums f s).hum = s.hum := rfl
@[simp] theorem recordSums_tsign (f : Frame) (s : State) : (recordSums f s).tsign = s.tsign := rfl
@[simp] theorem recordSums_tmag (f : Frame) (s : State) : (recordSums f s).tmag = s.tmag := rfl
@[simp] theorem recordSums_rxsum (f : Frame) (s : State) : (recordSums f s).rxsum = field4 f := rfl
@[simp] theorem recordSums_calcsum (f : Frame) (s : State) : (recordSums f s).calcsum = wrappingSum f := rfl
@[simp] theorem recordSums_done (f : Frame) (s : State) : (recordSums f s).done = s.done := rfl
@[simp] theorem recordSums_result (f : Frame) (s : State) : (recordSums f s).result = s.result := rfl
@[simp] theorem recordSums_cmderr (f : Frame) (s : State) : (recordSums f s).cmderr = s.cmderr := rfl
@[simp] theorem recordSums_cfgIe (f : Frame) (s : State) : (recordSums f s).cfgIe = s.cfgIe := rfl
@[simp] theorem recordSums_cfgPace (f : Frame) (s : State) : (recordSums f s).cfgPace = s.cfgPace := rfl
@[simp] theorem recordSums_toState (f : Frame) (s : State) : (recordSums f s).toState = s.toState := rfl
@[simp] theorem recordSums_busRdata (f : Frame) (s : State) : (recordSums f s).busRdata = s.busRdata := rfl
@[simp] theorem recordSums_hostIn (f : Frame) (s : State) : (recordSums f s).hostIn = s.hostIn := rfl
@[simp] theorem recordSums_lineIn (f : Frame) (s : State) : (recordSums f s).lineIn = s.lineIn := rfl
@[simp] theorem recordSums_cycle (f : Frame) (s : State) : (recordSums f s).cycle = s.cycle := rfl

/-! ## recordMeasurement -/

@[simp] theorem recordMeasurement_params (f : Frame) (s : State) : (recordMeasurement f s).params = s.params := rfl
@[simp] theorem recordMeasurement_sync0 (f : Frame) (s : State) : (recordMeasurement f s).sync0 = s.sync0 := rfl
@[simp] theorem recordMeasurement_sync1 (f : Frame) (s : State) : (recordMeasurement f s).sync1 = s.sync1 := rfl
@[simp] theorem recordMeasurement_st (f : Frame) (s : State) : (recordMeasurement f s).st = s.st := rfl
@[simp] theorem recordMeasurement_modeB (f : Frame) (s : State) : (recordMeasurement f s).modeB = s.modeB := rfl
@[simp] theorem recordMeasurement_paceL (f : Frame) (s : State) : (recordMeasurement f s).paceL = s.paceL := rfl
@[simp] theorem recordMeasurement_arm (f : Frame) (s : State) : (recordMeasurement f s).arm = s.arm := rfl
@[simp] theorem recordMeasurement_tcnt (f : Frame) (s : State) : (recordMeasurement f s).tcnt = s.tcnt := rfl
@[simp] theorem recordMeasurement_pcnt (f : Frame) (s : State) : (recordMeasurement f s).pcnt = s.pcnt := rfl
@[simp] theorem recordMeasurement_shift (f : Frame) (s : State) : (recordMeasurement f s).shift = s.shift := rfl
@[simp] theorem recordMeasurement_frame (f : Frame) (s : State) : (recordMeasurement f s).frame = s.frame := rfl
@[simp] theorem recordMeasurement_bitcnt (f : Frame) (s : State) : (recordMeasurement f s).bitcnt = s.bitcnt := rfl
@[simp] theorem recordMeasurement_hum (f : Frame) (s : State) : (recordMeasurement f s).hum = frameHum f := rfl
@[simp] theorem recordMeasurement_tsign (f : Frame) (s : State) : (recordMeasurement f s).tsign = frameTsign f := rfl
@[simp] theorem recordMeasurement_tmag (f : Frame) (s : State) : (recordMeasurement f s).tmag = frameTmag f := rfl
@[simp] theorem recordMeasurement_rxsum (f : Frame) (s : State) : (recordMeasurement f s).rxsum = s.rxsum := rfl
@[simp] theorem recordMeasurement_calcsum (f : Frame) (s : State) : (recordMeasurement f s).calcsum = s.calcsum := rfl
@[simp] theorem recordMeasurement_done (f : Frame) (s : State) : (recordMeasurement f s).done = s.done := rfl
@[simp] theorem recordMeasurement_result (f : Frame) (s : State) : (recordMeasurement f s).result = s.result := rfl
@[simp] theorem recordMeasurement_cmderr (f : Frame) (s : State) : (recordMeasurement f s).cmderr = s.cmderr := rfl
@[simp] theorem recordMeasurement_cfgIe (f : Frame) (s : State) : (recordMeasurement f s).cfgIe = s.cfgIe := rfl
@[simp] theorem recordMeasurement_cfgPace (f : Frame) (s : State) : (recordMeasurement f s).cfgPace = s.cfgPace := rfl
@[simp] theorem recordMeasurement_toState (f : Frame) (s : State) : (recordMeasurement f s).toState = s.toState := rfl
@[simp] theorem recordMeasurement_busRdata (f : Frame) (s : State) : (recordMeasurement f s).busRdata = s.busRdata := rfl
@[simp] theorem recordMeasurement_hostIn (f : Frame) (s : State) : (recordMeasurement f s).hostIn = s.hostIn := rfl
@[simp] theorem recordMeasurement_lineIn (f : Frame) (s : State) : (recordMeasurement f s).lineIn = s.lineIn := rfl
@[simp] theorem recordMeasurement_cycle (f : Frame) (s : State) : (recordMeasurement f s).cycle = s.cycle := rfl

/-! ## waitTimeout -/

@[simp] theorem waitTimeout_params (w : EdgeWait) (s : State) : (waitTimeout w s).params = s.params := rfl
@[simp] theorem waitTimeout_sync0 (w : EdgeWait) (s : State) : (waitTimeout w s).sync0 = s.sync0 := rfl
@[simp] theorem waitTimeout_sync1 (w : EdgeWait) (s : State) : (waitTimeout w s).sync1 = s.sync1 := rfl
@[simp] theorem waitTimeout_st (w : EdgeWait) (s : State) : (waitTimeout w s).st = .idle := rfl
@[simp] theorem waitTimeout_modeB (w : EdgeWait) (s : State) : (waitTimeout w s).modeB = s.modeB := rfl
@[simp] theorem waitTimeout_paceL (w : EdgeWait) (s : State) : (waitTimeout w s).paceL = s.paceL := rfl
@[simp] theorem waitTimeout_arm (w : EdgeWait) (s : State) : (waitTimeout w s).arm = s.arm := rfl
@[simp] theorem waitTimeout_tcnt (w : EdgeWait) (s : State) : (waitTimeout w s).tcnt = s.tcnt := rfl
@[simp] theorem waitTimeout_pcnt (w : EdgeWait) (s : State) : (waitTimeout w s).pcnt = s.pcnt := rfl
@[simp] theorem waitTimeout_shift (w : EdgeWait) (s : State) : (waitTimeout w s).shift = s.shift := rfl
@[simp] theorem waitTimeout_frame (w : EdgeWait) (s : State) : (waitTimeout w s).frame = s.frame := rfl
@[simp] theorem waitTimeout_bitcnt (w : EdgeWait) (s : State) : (waitTimeout w s).bitcnt = s.bitcnt := rfl
@[simp] theorem waitTimeout_hum (w : EdgeWait) (s : State) : (waitTimeout w s).hum = s.hum := rfl
@[simp] theorem waitTimeout_tsign (w : EdgeWait) (s : State) : (waitTimeout w s).tsign = s.tsign := rfl
@[simp] theorem waitTimeout_tmag (w : EdgeWait) (s : State) : (waitTimeout w s).tmag = s.tmag := rfl
@[simp] theorem waitTimeout_rxsum (w : EdgeWait) (s : State) : (waitTimeout w s).rxsum = s.rxsum := rfl
@[simp] theorem waitTimeout_calcsum (w : EdgeWait) (s : State) : (waitTimeout w s).calcsum = s.calcsum := rfl
@[simp] theorem waitTimeout_done (w : EdgeWait) (s : State) : (waitTimeout w s).done = true := rfl
@[simp] theorem waitTimeout_result (w : EdgeWait) (s : State) : (waitTimeout w s).result = .timeout := rfl
@[simp] theorem waitTimeout_cmderr (w : EdgeWait) (s : State) : (waitTimeout w s).cmderr = s.cmderr := rfl
@[simp] theorem waitTimeout_cfgIe (w : EdgeWait) (s : State) : (waitTimeout w s).cfgIe = s.cfgIe := rfl
@[simp] theorem waitTimeout_cfgPace (w : EdgeWait) (s : State) : (waitTimeout w s).cfgPace = s.cfgPace := rfl
@[simp] theorem waitTimeout_toState (w : EdgeWait) (s : State) : (waitTimeout w s).toState = some w := rfl
@[simp] theorem waitTimeout_busRdata (w : EdgeWait) (s : State) : (waitTimeout w s).busRdata = s.busRdata := rfl
@[simp] theorem waitTimeout_hostIn (w : EdgeWait) (s : State) : (waitTimeout w s).hostIn = s.hostIn := rfl
@[simp] theorem waitTimeout_lineIn (w : EdgeWait) (s : State) : (waitTimeout w s).lineIn = s.lineIn := rfl
@[simp] theorem waitTimeout_cycle (w : EdgeWait) (s : State) : (waitTimeout w s).cycle = s.cycle := rfl

/-! ## waitContinue -/

@[simp] theorem waitContinue_params (w : EdgeWait) (s h : State) : (waitContinue w s h).params = h.params := rfl
@[simp] theorem waitContinue_sync0 (w : EdgeWait) (s h : State) : (waitContinue w s h).sync0 = h.sync0 := rfl
@[simp] theorem waitContinue_sync1 (w : EdgeWait) (s h : State) : (waitContinue w s h).sync1 = h.sync1 := rfl
@[simp] theorem waitContinue_st (w : EdgeWait) (s h : State) : (waitContinue w s h).st = h.st := rfl
@[simp] theorem waitContinue_modeB (w : EdgeWait) (s h : State) : (waitContinue w s h).modeB = h.modeB := rfl
@[simp] theorem waitContinue_paceL (w : EdgeWait) (s h : State) : (waitContinue w s h).paceL = h.paceL := rfl
@[simp] theorem waitContinue_arm (w : EdgeWait) (s h : State) : (waitContinue w s h).arm = (if armsNow w s then true else s.arm) := rfl
@[simp] theorem waitContinue_tcnt (w : EdgeWait) (s h : State) : (waitContinue w s h).tcnt = tcntNext s.params s.tcnt := rfl
@[simp] theorem waitContinue_pcnt (w : EdgeWait) (s h : State) : (waitContinue w s h).pcnt = (if paced w s then (if s.pcnt = 0 then paceCycles s.params - 1 else s.pcnt - 1) else s.pcnt) := rfl
@[simp] theorem waitContinue_shift (w : EdgeWait) (s h : State) : (waitContinue w s h).shift = h.shift := rfl
@[simp] theorem waitContinue_frame (w : EdgeWait) (s h : State) : (waitContinue w s h).frame = h.frame := rfl
@[simp] theorem waitContinue_bitcnt (w : EdgeWait) (s h : State) : (waitContinue w s h).bitcnt = h.bitcnt := rfl
@[simp] theorem waitContinue_hum (w : EdgeWait) (s h : State) : (waitContinue w s h).hum = h.hum := rfl
@[simp] theorem waitContinue_tsign (w : EdgeWait) (s h : State) : (waitContinue w s h).tsign = h.tsign := rfl
@[simp] theorem waitContinue_tmag (w : EdgeWait) (s h : State) : (waitContinue w s h).tmag = h.tmag := rfl
@[simp] theorem waitContinue_rxsum (w : EdgeWait) (s h : State) : (waitContinue w s h).rxsum = h.rxsum := rfl
@[simp] theorem waitContinue_calcsum (w : EdgeWait) (s h : State) : (waitContinue w s h).calcsum = h.calcsum := rfl
@[simp] theorem waitContinue_done (w : EdgeWait) (s h : State) : (waitContinue w s h).done = h.done := rfl
@[simp] theorem waitContinue_result (w : EdgeWait) (s h : State) : (waitContinue w s h).result = h.result := rfl
@[simp] theorem waitContinue_cmderr (w : EdgeWait) (s h : State) : (waitContinue w s h).cmderr = h.cmderr := rfl
@[simp] theorem waitContinue_cfgIe (w : EdgeWait) (s h : State) : (waitContinue w s h).cfgIe = h.cfgIe := rfl
@[simp] theorem waitContinue_cfgPace (w : EdgeWait) (s h : State) : (waitContinue w s h).cfgPace = h.cfgPace := rfl
@[simp] theorem waitContinue_toState (w : EdgeWait) (s h : State) : (waitContinue w s h).toState = h.toState := rfl
@[simp] theorem waitContinue_busRdata (w : EdgeWait) (s h : State) : (waitContinue w s h).busRdata = h.busRdata := rfl
@[simp] theorem waitContinue_hostIn (w : EdgeWait) (s h : State) : (waitContinue w s h).hostIn = h.hostIn := rfl
@[simp] theorem waitContinue_lineIn (w : EdgeWait) (s h : State) : (waitContinue w s h).lineIn = h.lineIn := rfl
@[simp] theorem waitContinue_cycle (w : EdgeWait) (s h : State) : (waitContinue w s h).cycle = h.cycle := rfl

/-! ## withFetchWord -/

@[simp] theorem withFetchWord_params (s : State) (n w : Nat) : (s.withFetchWord n w).params = s.params := rfl
@[simp] theorem withFetchWord_sync0 (s : State) (n w : Nat) : (s.withFetchWord n w).sync0 = s.sync0 := rfl
@[simp] theorem withFetchWord_sync1 (s : State) (n w : Nat) : (s.withFetchWord n w).sync1 = s.sync1 := rfl
@[simp] theorem withFetchWord_st (s : State) (n w : Nat) : (s.withFetchWord n w).st = s.st := rfl
@[simp] theorem withFetchWord_modeB (s : State) (n w : Nat) : (s.withFetchWord n w).modeB = s.modeB := rfl
@[simp] theorem withFetchWord_paceL (s : State) (n w : Nat) : (s.withFetchWord n w).paceL = s.paceL := rfl
@[simp] theorem withFetchWord_arm (s : State) (n w : Nat) : (s.withFetchWord n w).arm = s.arm := rfl
@[simp] theorem withFetchWord_tcnt (s : State) (n w : Nat) : (s.withFetchWord n w).tcnt = s.tcnt := rfl
@[simp] theorem withFetchWord_pcnt (s : State) (n w : Nat) : (s.withFetchWord n w).pcnt = s.pcnt := rfl
@[simp] theorem withFetchWord_shift (s : State) (n w : Nat) : (s.withFetchWord n w).shift = s.shift := rfl
@[simp] theorem withFetchWord_frame (s : State) (n w : Nat) : (s.withFetchWord n w).frame = s.frame := rfl
@[simp] theorem withFetchWord_bitcnt (s : State) (n w : Nat) : (s.withFetchWord n w).bitcnt = s.bitcnt := rfl
@[simp] theorem withFetchWord_hum (s : State) (n w : Nat) : (s.withFetchWord n w).hum = s.hum := rfl
@[simp] theorem withFetchWord_tsign (s : State) (n w : Nat) : (s.withFetchWord n w).tsign = s.tsign := rfl
@[simp] theorem withFetchWord_tmag (s : State) (n w : Nat) : (s.withFetchWord n w).tmag = s.tmag := rfl
@[simp] theorem withFetchWord_rxsum (s : State) (n w : Nat) : (s.withFetchWord n w).rxsum = s.rxsum := rfl
@[simp] theorem withFetchWord_calcsum (s : State) (n w : Nat) : (s.withFetchWord n w).calcsum = s.calcsum := rfl
@[simp] theorem withFetchWord_done (s : State) (n w : Nat) : (s.withFetchWord n w).done = s.done := rfl
@[simp] theorem withFetchWord_result (s : State) (n w : Nat) : (s.withFetchWord n w).result = s.result := rfl
@[simp] theorem withFetchWord_cmderr (s : State) (n w : Nat) : (s.withFetchWord n w).cmderr = s.cmderr := rfl
@[simp] theorem withFetchWord_cfgIe (s : State) (n w : Nat) : (s.withFetchWord n w).cfgIe = s.cfgIe := rfl
@[simp] theorem withFetchWord_cfgPace (s : State) (n w : Nat) : (s.withFetchWord n w).cfgPace = s.cfgPace := rfl
@[simp] theorem withFetchWord_toState (s : State) (n w : Nat) : (s.withFetchWord n w).toState = s.toState := rfl
@[simp] theorem withFetchWord_busRdata (s : State) (n w : Nat) : (s.withFetchWord n w).busRdata = s.busRdata := rfl
@[simp] theorem withFetchWord_hostIn (s : State) (n w : Nat) : (s.withFetchWord n w).hostIn = requestPorts (BitVec.ofNat 39 (w % 2 ^ n)) :: s.hostIn.tail := rfl
@[simp] theorem withFetchWord_lineIn (s : State) (n w : Nat) : (s.withFetchWord n w).lineIn = s.lineIn := rfl
@[simp] theorem withFetchWord_cycle (s : State) (n w : Nat) : (s.withFetchWord n w).cycle = s.cycle := rfl

/-! ## The reset action -/

@[simp] theorem resetWith_params (p : Params) : (State.resetWith p).params = p := rfl
@[simp] theorem resetWith_sync0 (p : Params) : (State.resetWith p).sync0 = false := rfl
@[simp] theorem resetWith_sync1 (p : Params) : (State.resetWith p).sync1 = false := rfl
@[simp] theorem resetWith_st (p : Params) : (State.resetWith p).st = .idle := rfl
@[simp] theorem resetWith_modeB (p : Params) : (State.resetWith p).modeB = false := rfl
@[simp] theorem resetWith_paceL (p : Params) : (State.resetWith p).paceL = false := rfl
@[simp] theorem resetWith_arm (p : Params) : (State.resetWith p).arm = false := rfl
@[simp] theorem resetWith_tcnt (p : Params) : (State.resetWith p).tcnt = 0 := rfl
@[simp] theorem resetWith_pcnt (p : Params) : (State.resetWith p).pcnt = 0 := rfl
@[simp] theorem resetWith_shift (p : Params) : (State.resetWith p).shift = 0#40 := rfl
@[simp] theorem resetWith_frame (p : Params) : (State.resetWith p).frame = 0#40 := rfl
@[simp] theorem resetWith_bitcnt (p : Params) : (State.resetWith p).bitcnt = 0#6 := rfl
@[simp] theorem resetWith_hum (p : Params) : (State.resetWith p).hum = 0#16 := rfl
@[simp] theorem resetWith_tsign (p : Params) : (State.resetWith p).tsign = false := rfl
@[simp] theorem resetWith_tmag (p : Params) : (State.resetWith p).tmag = 0#15 := rfl
@[simp] theorem resetWith_rxsum (p : Params) : (State.resetWith p).rxsum = 0#8 := rfl
@[simp] theorem resetWith_calcsum (p : Params) : (State.resetWith p).calcsum = 0#8 := rfl
@[simp] theorem resetWith_done (p : Params) : (State.resetWith p).done = false := rfl
@[simp] theorem resetWith_result (p : Params) : (State.resetWith p).result = .none := rfl
@[simp] theorem resetWith_cmderr (p : Params) : (State.resetWith p).cmderr = false := rfl
@[simp] theorem resetWith_cfgIe (p : Params) : (State.resetWith p).cfgIe = false := rfl
@[simp] theorem resetWith_cfgPace (p : Params) : (State.resetWith p).cfgPace = true := rfl
@[simp] theorem resetWith_toState (p : Params) : (State.resetWith p).toState = none := rfl
@[simp] theorem resetWith_busRdata (p : Params) : (State.resetWith p).busRdata = 0#32 := rfl
@[simp] theorem resetWith_hostIn (p : Params) : (State.resetWith p).hostIn = [] := rfl
@[simp] theorem resetWith_lineIn (p : Params) : (State.resetWith p).lineIn = [] := rfl
@[simp] theorem resetWith_cycle (p : Params) : (State.resetWith p).cycle = 0 := rfl

@[simp] theorem resetCycle_params (s : State) : (resetCycle s).params = s.params := rfl
@[simp] theorem resetCycle_sync0 (s : State) : (resetCycle s).sync0 = false := rfl
@[simp] theorem resetCycle_sync1 (s : State) : (resetCycle s).sync1 = false := rfl
@[simp] theorem resetCycle_st (s : State) : (resetCycle s).st = .idle := rfl
@[simp] theorem resetCycle_modeB (s : State) : (resetCycle s).modeB = false := rfl
@[simp] theorem resetCycle_paceL (s : State) : (resetCycle s).paceL = false := rfl
@[simp] theorem resetCycle_arm (s : State) : (resetCycle s).arm = false := rfl
@[simp] theorem resetCycle_tcnt (s : State) : (resetCycle s).tcnt = 0 := rfl
@[simp] theorem resetCycle_pcnt (s : State) : (resetCycle s).pcnt = 0 := rfl
@[simp] theorem resetCycle_shift (s : State) : (resetCycle s).shift = 0#40 := rfl
@[simp] theorem resetCycle_frame (s : State) : (resetCycle s).frame = 0#40 := rfl
@[simp] theorem resetCycle_bitcnt (s : State) : (resetCycle s).bitcnt = 0#6 := rfl
@[simp] theorem resetCycle_hum (s : State) : (resetCycle s).hum = 0#16 := rfl
@[simp] theorem resetCycle_tsign (s : State) : (resetCycle s).tsign = false := rfl
@[simp] theorem resetCycle_tmag (s : State) : (resetCycle s).tmag = 0#15 := rfl
@[simp] theorem resetCycle_rxsum (s : State) : (resetCycle s).rxsum = 0#8 := rfl
@[simp] theorem resetCycle_calcsum (s : State) : (resetCycle s).calcsum = 0#8 := rfl
@[simp] theorem resetCycle_done (s : State) : (resetCycle s).done = false := rfl
@[simp] theorem resetCycle_result (s : State) : (resetCycle s).result = .none := rfl
@[simp] theorem resetCycle_cmderr (s : State) : (resetCycle s).cmderr = false := rfl
@[simp] theorem resetCycle_cfgIe (s : State) : (resetCycle s).cfgIe = false := rfl
@[simp] theorem resetCycle_cfgPace (s : State) : (resetCycle s).cfgPace = true := rfl
@[simp] theorem resetCycle_toState (s : State) : (resetCycle s).toState = none := rfl
@[simp] theorem resetCycle_busRdata (s : State) : (resetCycle s).busRdata = 0#32 := rfl
@[simp] theorem resetCycle_hostIn (s : State) : (resetCycle s).hostIn = s.hostIn.tail := rfl
@[simp] theorem resetCycle_lineIn (s : State) : (resetCycle s).lineIn = s.lineIn.tail := rfl
@[simp] theorem resetCycle_cycle (s : State) : (resetCycle s).cycle = s.cycle + 1 := rfl

end Sys2Proof.Machine
end

