-- ==== Sys2Proof/Laws/Ops.lean ====
section
/-! SUPPORT. One lemma per shared operation that says all it can do; callers cite these and unfold no operation. -/

namespace Sys2Proof.Machine

/-- A command is accepted in IDLE and ignored otherwise. -/
theorem command_cases (accept : State → State) (s : State) :
    (s.st = .idle ∧ command accept s = accept s) ∨ (s.st ≠ .idle ∧ command accept s = ignoreCommand s) := by
  unfold command
  split
  · exact .inl ⟨‹_›, rfl⟩
  · exact .inr ⟨‹_›, rfl⟩

/-- A host's write of FRAME is kept in IDLE and lost otherwise. -/
theorem hostWriteFrame_cases (f : Frame) (s : State) :
    (s.st = .idle ∧ hostWriteFrame f s = { s with frame := f }) ∨ (s.st ≠ .idle ∧ hostWriteFrame f s = s) := by
  unfold hostWriteFrame
  split
  · exact .inl ⟨‹_›, rfl⟩
  · exact .inr ⟨‹_›, rfl⟩

theorem command_idle {s : State} (accept : State → State) (h : s.st = .idle) : command accept s = accept s := if_pos h

theorem command_busy {s : State} (accept : State → State) (h : s.st ≠ .idle) : command accept s = ignoreCommand s :=
  if_neg h

/-! ## The inputs of a cycle -/

@[simp] theorem ports_nil {s : State} (h : s.hostIn = []) : s.ports = idlePorts := by simp [State.ports, h]

@[simp] theorem ports_cons {s : State} {p : HostPorts} {ps : List HostPorts} (h : s.hostIn = p :: ps) : s.ports = p := by
  simp [State.ports, h]

@[simp] theorem pinIn_nil {s : State} (h : s.lineIn = []) : s.pinIn = Config.freePinIn s.cycle := by
  simp [State.pinIn, h]

@[simp] theorem pinIn_cons {s : State} {b : Bool} {bs : List Bool} (h : s.lineIn = b :: bs) : s.pinIn = b := by
  simp [State.pinIn, h]

@[simp] theorem portsRequest_idle : portsRequest idlePorts = none := rfl

/-- The fields of a word, put together again. -/
theorem brw_fields (w : Brw) : brw (brwWe w) (brwOff w) (brwData w) = w := by
  apply BitVec.eq_of_getLsbD_eq
  intro i hi
  simp only [brw, brwWe, brwOff, brwData, BitVec.getLsbD_append, BitVec.getLsbD_extractLsb', BitVec.getLsbD_ofBool]
  by_cases h32 : i < 32
  · simp [h32]
  · by_cases h38 : i < 38
    · have : 32 + (i - 32) = i := by omega
      simp [h32, show i - 32 < 6 by omega, this]
    · have : i = 38 := by omega
      subst this
      simp

@[simp] theorem portsRequest_requestPorts (w : Brw) : portsRequest (requestPorts w) = some w := by
  simp [portsRequest, requestPorts, brw_fields]

/-! ## Codes -/

/-- Distinct waits have distinct codes. -/
theorem waitCode_injective (v w : EdgeWait) (h : waitCode v = waitCode w) : v = w := by
  cases v <;> cases w <;> first | rfl | exact absurd h (by decide)

/-- No wait has IDLE's code 0, so TO_STATE = 0 says that nothing timed out. -/
theorem waitCode_ne_zero (w : EdgeWait) : waitCode w ≠ 0#4 := by cases w <;> decide

/-- Distinct results have distinct codes. -/
theorem resultCode_injective (c d : ResultCode) (h : resultCode c = resultCode d) : c = d := by
  cases c <;> cases d <;> first | rfl | exact absurd h (by decide)

/-! ## Counters -/

theorem tcntNext_le_max (p : Params) (t : Nat) : tcntNext p t ≤ tcntMax p := Nat.min_le_right _ _

/-- Below its greatest value TCNT counts by one. -/
theorem tcntNext_of_lt {p : Params} {t : Nat} (h : t < tcntMax p) : tcntNext p t = t + 1 := Nat.min_eq_left h

/-- What legality of the parameters says. -/
theorem legalParams_iff (p : Params) :
    legalParams p = true ↔ 1 ≤ p.cyclesPerUs ∧ p.cyclesPerUs ≤ 65535 ∧ trigCycles p - 1 ≤ tcntMax p
      ∧ timeoutCycles p + 1 ≤ tcntMax p ∧ p.cyclesPerUs - 1 ≤ 2 ^ p.pw - 1 := by
  simp [legalParams, and_assoc]

/-- The least width holds its number. -/
theorem le_two_pow_leastWidth (n k : Nat) : n ≤ 2 ^ (leastWidth n + k) - 1 := by
  have grow : 2 ^ leastWidth n ≤ 2 ^ (leastWidth n + k) := Nat.pow_le_pow_right (by decide) (Nat.le_add_right _ _)
  have fit : n < 2 ^ leastWidth n := by
    unfold leastWidth
    split
    · simp_all
    · exact Nat.lt_log2_self
  omega

/-- The implementation's parameters are legal, whatever the draws. -/
theorem implParams_legal : legalParams implParams = true := by
  have width := le_two_pow_leastWidth
    (max (1000 * (Config.cyclesDraw.val + 1) - 1) (100 * (Config.cyclesDraw.val + 1) + 1)) Config.twDraw
  have pace := le_two_pow_leastWidth (Config.cyclesDraw.val + 1 - 1) Config.pwDraw
  have draw := Config.cyclesDraw.isLt
  rw [legalParams_iff]
  simp only [implParams, trigCycles, timeoutCycles, tcntMax] at *
  omega

end Sys2Proof.Machine
end

