-- ==== Sys2Proof/Laws/Engine.lean ====
section
/-! SUPPORT. What the engine's rules can do, said once: one inversion lemma per rule that branches, and the selection
of the rule by ST. `s` is the state at the start of the cycle, `h` the state its writes go into. -/

namespace Sys2Proof.Machine

theorem engineStep_idle {s : State} (h : State) (hs : s.st = .idle) : engineStep s h = h := by simp [engineStep, hs]

theorem engineStep_trigH0 {s : State} (h : State) (hs : s.st = .trigH0) : engineStep s h = trigH0Step h := by
  simp [engineStep, hs]

theorem engineStep_trigOe {s : State} (h : State) (hs : s.st = .trigOe) : engineStep s h = trigOeStep h := by
  simp [engineStep, hs]

theorem engineStep_trigLow {s : State} (h : State) (hs : s.st = .trigLow) : engineStep s h = trigLowStep s h := by
  simp [engineStep, hs]

theorem engineStep_trigH1 {s : State} (h : State) (hs : s.st = .trigH1) : engineStep s h = enterWait .preF1 h := by
  simp [engineStep, hs, trigH1Step]

theorem engineStep_wait {s : State} {w : EdgeWait} (h : State) (hs : s.st = .wait w) :
    engineStep s h = edgeWaitStep w s h := by simp [engineStep, hs]

theorem engineStep_decode {s : State} (h : State) (hs : s.st = .decode) : engineStep s h = decodeStep s h := by
  simp [engineStep, hs]

/-- TRIG_LOW ends, or counts. -/
theorem trigLowStep_cases (s h : State) :
    (s.tcnt = trigCycles s.params - 1 ∧ trigLowStep s h = { h with st := .trigH1 })
      ∨ (s.tcnt ≠ trigCycles s.params - 1 ∧ trigLowStep s h = { h with tcnt := tcntNext s.params s.tcnt }) := by
  unfold trigLowStep
  split
  · exact .inl ⟨‹_›, rfl⟩
  · exact .inr ⟨‹_›, rfl⟩

/-- A bit is captured: the fortieth ends the acquisition, an earlier one starts the next slot. -/
theorem captureBit_cases (s h : State) :
    (s.bitcnt.toNat + 1 = 40 ∧ captureBit s h = { h with
        shift := shiftedIn s.shift (classifiedBit s), bitcnt := s.bitcnt + 1#6,
        frame := shiftedIn s.shift (classifiedBit s), st := .decode })
      ∨ (s.bitcnt.toNat + 1 ≠ 40 ∧ captureBit s h = enterWait .bitR
          { h with shift := shiftedIn s.shift (classifiedBit s), bitcnt := s.bitcnt + 1#6 }) := by
  unfold captureBit
  simp only
  split
  · exact .inl ⟨‹_›, rfl⟩
  · exact .inr ⟨‹_›, rfl⟩

/-- The cycle of an edge wait: completion, else timeout, else one more cycle. -/
theorem edgeWaitStep_cases (w : EdgeWait) (s h : State) :
    (completes w s = true ∧ edgeWaitStep w s h = waitComplete w s h)
      ∨ (completes w s = false ∧ timesOut s = true ∧ edgeWaitStep w s h = waitTimeout w h)
      ∨ (completes w s = false ∧ timesOut s = false ∧ edgeWaitStep w s h = waitContinue w s h) := by
  unfold edgeWaitStep
  split
  · exact .inl ⟨‹_›, rfl⟩
  · split
    · exact .inr (.inl ⟨Bool.eq_false_iff.2 ‹_›, ‹_›, rfl⟩)
    · exact .inr (.inr ⟨Bool.eq_false_iff.2 ‹_›, Bool.eq_false_iff.2 ‹_›, rfl⟩)

/-- The decode step, by the checksum. -/
theorem decodeStep_cases (s h : State) :
    (checksumOk s.frame = true
        ∧ decodeStep s h = finish .ok (recordMeasurement s.frame (recordSums s.frame h)))
      ∨ (checksumOk s.frame = false ∧ decodeStep s h = finish .checksum (recordSums s.frame h)) := by
  unfold decodeStep
  split
  · exact .inl ⟨‹_›, rfl⟩
  · exact .inr ⟨Bool.eq_false_iff.2 ‹_›, rfl⟩

theorem timesOut_iff (s : State) : timesOut s = true ↔ s.modeB = true ∧ timeoutCycles s.params < s.tcnt := by
  simp [timesOut]

/-- A wait completes only in phase 2, on a sample of the target level. -/
theorem completes_iff (w : EdgeWait) (s : State) :
    completes w s = true ↔ s.arm = true ∧ s.sync1 = targetLevel w := by
  have unpaced : s.arm = true → samples w s = true := fun h => by simp [samples, paced, h]
  simp only [completes, Bool.and_eq_true, beq_iff_eq]
  exact ⟨fun ⟨⟨_, h⟩, e⟩ => ⟨h, e⟩, fun ⟨h, e⟩ => ⟨⟨unpaced h, h⟩, e⟩⟩

/-- A shifted-in register is twice the old one plus the bit, in 40 bits. -/
theorem shiftedIn_toNat (f : Frame) (b : Bool) : (shiftedIn f b).toNat = (2 * f.toNat + b.toNat) % 2 ^ 40 := by
  have low : (bit b).toNat = b.toNat := by cases b <;> rfl
  have fits : (bit b).toNat < 2 := by cases b <;> decide
  simp only [shiftedIn, BitVec.toNat_append, BitVec.extractLsb'_toNat, Nat.shiftRight_zero]
  rw [Nat.shiftLeft_eq, Nat.mul_comm, ← Nat.two_pow_add_eq_or_of_lt (by simpa using fits), low]
  have := f.isLt
  omega

end Sys2Proof.Machine
end

