-- ==== Sys2Proof/Laws/Step.lean ====
section
/-! SUPPORT. What an operation and a clock cycle can do, said once. -/

namespace Sys2Proof.Machine

/-- Every operation has an effect, and it is one of these. -/
theorem exec_cases (i : Instr) (s : State) : ∃ h, exec i s = .next h ∧
    (h = s ∨ (∃ off, h = { s with busRdata := readValue s (regAt off) })
      ∨ h = ignoreCommand s
      ∨ (s.st = .idle ∧ ∃ b, h = acceptAcquisition b s) ∨ (s.st = .idle ∧ h = acceptDecode s)
      ∨ (∃ d, h = acknowledge d s) ∨ (∃ d, h = { s with cfgIe := dataIe d, cfgPace := dataPace d })
      ∨ (s.st = .idle ∧ ∃ f, h = { s with frame := f })) := by
  cases i with
  | rd off _ => exact ⟨_, rfl, .inr (.inl ⟨off, rfl⟩)⟩
  | measure _ _ =>
    refine ⟨_, rfl, ?_⟩
    rcases command_cases (acceptAcquisition true) s with ⟨hs, e⟩ | ⟨_, e⟩ <;> rw [e]
    · exact .inr (.inr (.inr (.inl ⟨hs, _, rfl⟩)))
    · exact .inr (.inr (.inl rfl))
  | measureLegacy _ _ =>
    refine ⟨_, rfl, ?_⟩
    rcases command_cases (acceptAcquisition false) s with ⟨hs, e⟩ | ⟨_, e⟩ <;> rw [e]
    · exact .inr (.inr (.inr (.inl ⟨hs, _, rfl⟩)))
    · exact .inr (.inr (.inl rfl))
  | decode _ _ =>
    refine ⟨_, rfl, ?_⟩
    rcases command_cases acceptDecode s with ⟨hs, e⟩ | ⟨_, e⟩ <;> rw [e]
    · exact .inr (.inr (.inr (.inr (.inl ⟨hs, rfl⟩))))
    · exact .inr (.inr (.inl rfl))
  | ctrlRsvd47 _ _ _ => exact ⟨_, rfl, .inr (.inr (.inl rfl))⟩
  | ctrlRsvd8F _ _ _ => exact ⟨_, rfl, .inr (.inr (.inl rfl))⟩
  | wrStatus _ d => exact ⟨_, rfl, .inr (.inr (.inr (.inr (.inr (.inl ⟨d, rfl⟩)))))⟩
  | wrConfig _ d => exact ⟨_, rfl, .inr (.inr (.inr (.inr (.inr (.inr (.inl ⟨d, rfl⟩))))))⟩
  | wrFrameHi _ d =>
    refine ⟨_, rfl, ?_⟩
    rcases hostWriteFrame_cases (frameWithHi s.frame d) s with ⟨hs, e⟩ | ⟨_, e⟩ <;> rw [e]
    · exact .inr (.inr (.inr (.inr (.inr (.inr (.inr ⟨hs, _, rfl⟩))))))
    · exact .inl rfl
  | wrFrameLo _ d =>
    refine ⟨_, rfl, ?_⟩
    rcases hostWriteFrame_cases (frameWithLo s.frame d) s with ⟨hs, e⟩ | ⟨_, e⟩ <;> rw [e]
    · exact .inr (.inr (.inr (.inr (.inr (.inr (.inr ⟨hs, _, rfl⟩))))))
    · exact .inl rfl
  | nop _ _ => exact ⟨s, rfl, .inl rfl⟩
  | wrHumidity _ _ => exact ⟨s, rfl, .inl rfl⟩
  | wrTempRaw _ _ => exact ⟨s, rfl, .inl rfl⟩
  | wrTemperature _ _ => exact ⟨s, rfl, .inl rfl⟩
  | wrChecksum _ _ => exact ⟨s, rfl, .inl rfl⟩
  | wrProgress _ _ => exact ⟨s, rfl, .inl rfl⟩
  | wrParam _ _ => exact ⟨s, rfl, .inl rfl⟩
  | wrUnmappedB _ _ => exact ⟨s, rfl, .inl rfl⟩
  | wrUnmappedC _ _ => exact ⟨s, rfl, .inl rfl⟩
  | wrUnmappedD _ _ => exact ⟨s, rfl, .inl rfl⟩
  | wrUnmappedE _ _ => exact ⟨s, rfl, .inl rfl⟩
  | wrUnmappedF _ _ => exact ⟨s, rfl, .inl rfl⟩

/-- What the host's ports do to the state at the start of the cycle (nothing, or one operation). -/
inductive HostEffect (s : State) : State → Prop where
  | nothing (quiet : PresentsNothing s) : HostEffect s (beginCycle s)
  | operation {w : Brw} {h : State} (request : portsRequest s.ports = some w)
      (effect : exec (decode w) (beginCycle s) = .next h) : HostEffect s h

/-- While an operation runs the host can change only DONE (downwards), CMDERR, CONFIG and `bus_rdata`. -/
theorem hostEffect_busy {s h : State} (e : HostEffect s h) (running : s.st ≠ .idle) :
    ∃ done cmderr ie pace rdata,
      h = { s with done := done, cmderr := cmderr, cfgIe := ie, cfgPace := pace, busRdata := rdata }
        ∧ (s.done = false → done = false) := by
  cases e with
  | nothing _ => exact ⟨s.done, s.cmderr, s.cfgIe, s.cfgPace, 0#32, rfl, id⟩
  | operation _ effect =>
    obtain ⟨h', e', c⟩ := exec_cases (decode _) (beginCycle s)
    obtain rfl : h = h' := by rw [effect] at e'; cases e'; rfl
    rcases c with rfl | ⟨_, rfl⟩ | rfl | ⟨idle, _⟩ | ⟨idle, _⟩ | ⟨_, rfl⟩ | ⟨_, rfl⟩ | ⟨idle, _⟩
    · exact ⟨s.done, s.cmderr, s.cfgIe, s.cfgPace, 0#32, rfl, id⟩
    · exact ⟨s.done, s.cmderr, s.cfgIe, s.cfgPace, _, rfl, id⟩
    · exact ⟨s.done, true, s.cfgIe, s.cfgPace, 0#32, rfl, id⟩
    · exact absurd idle running
    · exact absurd idle running
    · exact ⟨_, _, s.cfgIe, s.cfgPace, 0#32, rfl, by simp +contextual⟩
    · exact ⟨s.done, s.cmderr, _, _, 0#32, rfl, id⟩
    · exact absurd idle running

/-- The host's side of a state is not its engine's. -/
theorem hostSide_st {s u : State} (side : HostSide s u) : u.st = s.st := by rw [side]

theorem hostSide_result {s u : State} (side : HostSide s u) : u.result = s.result := by rw [side]

theorem hostSide_refl (s : State) : HostSide s s := rfl

/-- Whatever the host does while an operation runs is on its own side. -/
theorem hostSide_of_hostEffect {s h : State} (e : HostEffect s h) (running : s.st ≠ .idle) : HostSide s h := by
  obtain ⟨_, _, _, _, _, rfl, _⟩ := hostEffect_busy e running
  rfl

/-- A cycle with `rst` = 1 is a reset. -/
theorem step_reset {s : State} (h : s.ports.rst = true) : step s = .next (resetCycle s) := by simp [step, h]

/-- A cycle that runs is a host effect and the clock edge over it. -/
theorem step_runs {s : State} (run : Runs s) : ∃ h, HostEffect s h ∧ step s = .next (clockEdge s h) := by
  have quiet : resultUnreachable s = false := by simpa [resultUnreachable] using run.2
  unfold step
  rw [if_neg (by simp [run.1]), if_neg (by simp [quiet])]
  unfold runCycle
  cases req : portsRequest s.ports with
  | none => exact ⟨_, .nothing req, rfl⟩
  | some w =>
    obtain ⟨h, e, _⟩ := exec_cases (decode w) (beginCycle s)
    exact ⟨h, .operation req e, by simp [e]⟩

/-- Every way a step answers next. -/
theorem step_cases {s t : State} (e : step s = .next t) :
    (s.ports.rst = true ∧ t = resetCycle s) ∨ (Runs s ∧ ∃ h, HostEffect s h ∧ t = clockEdge s h) := by
  by_cases r : s.ports.rst = true
  · rw [step_reset r] at e
    exact .inl ⟨r, by simpa using e.symm⟩
  · by_cases q : s.result = .invalidFrame
    · simp [step, r, resultUnreachable, q] at e
    · have run : Runs s := ⟨by simpa using r, q⟩
      obtain ⟨h, eff, e'⟩ := step_runs run
      rw [e'] at e
      exact .inr ⟨run, h, eff, by simpa using e.symm⟩

/-- A state with the unreachable RESULT is refused, unless `rst` is 1. -/
theorem step_refused {s : State} (r : s.ports.rst = false) (q : s.result = .invalidFrame) :
    step s = .refused .unreachableResult := by simp [step, r, resultUnreachable, q]

/-- No step faults: the block has no traps (R200). -/
theorem step_no_fault (s : State) (f : Fault) : step s ≠ .fault f := nomatch f

/-- One cycle of the host's runner, on any machine. -/
theorem core_run_next {M : Host.Core} {n : Nat} {s t : M.State} (e : M.step s = .next t) : M.run (n + 1) s = M.run n t := by
  simp [Host.Core.run, e]

/-- A refusal ends the host's run, on any machine. -/
theorem core_run_refused {M : Host.Core} {n : Nat} {s : M.State} {r : M.Refusal} (e : M.step s = .refused r) :
    M.run (n + 1) s = .refused r := by
  simp [Host.Core.run, e]

/-- The host's interface runs the machine as `runFor` does. -/
theorem core_run_eq_runFor (n : Nat) (s : State) : Host.Core.run Sys2Proof.core n s = runFor n s := by
  induction n generalizing s with
  | zero => rfl
  | succ n ih =>
    cases e : step s with
    | next t => rw [runFor, e]; exact (core_run_next (M := Sys2Proof.core) e).trans (ih t)
    | fault f => exact nomatch f
    | refused r => rw [runFor, e]; exact core_run_refused (M := Sys2Proof.core) e

theorem runFor_succ {n : Nat} {s t : State} (e : step s = .next t) : runFor (n + 1) s = runFor n t := by
  rw [runFor, e]

/-- A run of `m + n` cycles is a run of `m` and then one of `n`. -/
theorem runFor_add {m n : Nat} {s t : State} (e : runFor m s = .next t) : runFor (m + n) s = runFor n t := by
  induction m generalizing s with
  | zero => simp_all [runFor]
  | succ m ih =>
    rw [show m + 1 + n = (m + n) + 1 by omega, runFor]
    rw [runFor] at e
    cases hs : step s with
    | next u => rw [hs] at e; exact ih e
    | fault f => rw [hs] at e; cases e
    | refused r => rw [hs] at e; cases e

end Sys2Proof.Machine
end

