-- ==== Sys2Proof/Laws/HostSyntax.lean ====
section
/-! SUPPORT. What the line stimulus states and what a cycle of a host program does. -/

namespace Sys2Proof.Machine

theorem lineLevels_append (before after : List (Bool × Nat)) :
    lineLevels (before ++ after) = lineLevels before ++ lineLevels after := by simp [lineLevels]

/-- As many levels as the segments have cycles. -/
theorem lineLevels_length (segments : List (Bool × Nat)) :
    (lineLevels segments).length = (segments.map Prod.snd).sum := by
  simp [lineLevels, List.length_flatMap]

/-- One LINE form alone states what it states. -/
@[simp] theorem lineAt_single (line : LineStimulus) (c : Nat) : lineAt [line] c = line.levelAt c := rfl

@[simp] theorem withLine_none (s : State) : s.withLine none = s := rfl

/-- A stated level is the cycle's `pin_in`. -/
@[simp] theorem withLine_some_pinIn (b : Bool) (s : State) : (s.withLine (some b)).pinIn = b := rfl

/-- A level changes nothing but the line to come. -/
theorem withLine_eq (level : Option Bool) (s : State) :
    s.withLine level = { s with lineIn := (s.withLine level).lineIn } := by cases level <;> rfl

@[simp] theorem withLine_result (level : Option Bool) (s : State) : (s.withLine level).result = s.result := by
  cases level <;> rfl

/-- A cycle a program presents runs, unless the state is one a step refuses. -/
theorem presentCycle_runs {p : HostPorts} {level : Option Bool} {s : State} (quiet : p.rst = false)
    (legal : s.result ≠ .invalidFrame) :
    ∃ h, HostEffect { s.withLine level with hostIn := p :: s.hostIn } h
      ∧ presentCycle p level s = .next (clockEdge { s.withLine level with hostIn := p :: s.hostIn } h) :=
  step_runs ⟨quiet, by simpa using legal⟩

end Sys2Proof.Machine
end

