-- ==== Sys2Proof/Laws/PerInstr.lean ====
section
/-! SUPPORT. For every instruction, as syntax: a well-formed one is encoded inside its own row of the opcode table. -/

namespace Sys2Proof.Laws.EncodesInItsRow

/-- The row of the table that bears the instruction's mnemonic fits its word. -/
def Statement (i : Instr) : Prop :=
  i.wellFormed = true → ∃ r ∈ opcodeTable, r.mnemonic = i.mnemonic ∧ r.fits (encode i) = true

/-- Masking a concatenation masks its parts. -/
theorem and_of_append {m n : Nat} (a c : BitVec m) (b d : BitVec n) : (a ++ b) &&& (c ++ d) = (a &&& c) ++ (b &&& d) := by
  apply BitVec.eq_of_getLsbD_eq
  intro i _
  simp only [BitVec.getLsbD_and, BitVec.getLsbD_append]
  split <;> rfl

/-- Masking a bus request word masks its fields. -/
theorem brw_and (we we' : Bool) (off off' : BitVec 6) (data data' : Word) :
    brw we off data &&& brw we' off' data' = brw (we && we') (off &&& off') (data &&& data') := by
  have first : BitVec.ofBool we &&& BitVec.ofBool we' = BitVec.ofBool (we && we') := by cases we <;> cases we' <;> rfl
  have upper := and_of_append (BitVec.ofBool we) (BitVec.ofBool we') off off'
  have whole := and_of_append (BitVec.ofBool we ++ off) (BitVec.ofBool we' ++ off') data data'
  rw [first] at upper
  rw [upper] at whole
  exact whole

/-- A CTRL write under a mask of WE, OFF[5:2] and some bits of CMD. -/
theorem ctrlWord_and (lo : BitVec 2) (cmd m : BitVec 4) (ign : BitVec 28) :
    ctrlWord lo cmd ign &&& brw true (0xF#4 ++ 0#2) (0#28 ++ m) = ctrlWord 0#2 (cmd &&& m) 0#28 := by
  have off : (0#4 ++ lo) &&& (0xF#4 ++ 0#2) = 0#4 ++ 0#2 := by
    rw [and_of_append, BitVec.and_zero, BitVec.zero_and]
  have data : (ign ++ cmd) &&& (0#28 ++ m) = 0#28 ++ (cmd &&& m) := by rw [and_of_append, BitVec.and_zero]
  have fields := brw_and true true (0#4 ++ lo) (0xF#4 ++ 0#2) (ign ++ cmd) (0#28 ++ m)
  exact fields.trans (congr (congrArg (brw true) off) data)

/-- A write of another register under the mask of WE and OFF[5:2]. -/
theorem writeWord_and (reg : BitVec 4) (lo : BitVec 2) (data : Word) :
    writeWord reg lo data &&& brw true (0xF#4 ++ 0#2) 0#32 = writeWord reg 0#2 0#32 := by
  have off : (reg ++ lo) &&& (0xF#4 ++ 0#2) = reg ++ 0#2 := by
    rw [and_of_append, BitVec.and_zero, show reg &&& 0xF#4 = reg from BitVec.and_allOnes]
  have fields := brw_and true true (reg ++ lo) (0xF#4 ++ 0#2) data 0#32
  exact fields.trans (congr (congrArg (brw true) off) BitVec.and_zero)

/-- A row of the table whose mask is that of a register write. -/
theorem writeRow (name : String) (reg : BitVec 4) (lo : BitVec 2) (data : Word)
    (row : ⟨name, writeWord reg 0#2 0#32, 0x7c00000000#39⟩ ∈ opcodeTable) :
    ∃ r ∈ opcodeTable, r.mnemonic = name ∧ r.fits (writeWord reg lo data) = true :=
  ⟨_, row, rfl, by
    have mask : (0x7c00000000#39 : Brw) = brw true (0xF#4 ++ 0#2) 0#32 := by decide
    simp only [OpcodeRow.fits, mask, writeWord_and, beq_self_eq_true]⟩

/-- A row of the table that fixes CMD whole. -/
theorem ctrlRow (name : String) (cmd : BitVec 4) (lo : BitVec 2) (ign : BitVec 28)
    (row : ⟨name, ctrlWord 0#2 cmd 0#28, 0x7c0000000f#39⟩ ∈ opcodeTable) :
    ∃ r ∈ opcodeTable, r.mnemonic = name ∧ r.fits (ctrlWord lo cmd ign) = true :=
  ⟨_, row, rfl, by
    have mask : (0x7c0000000f#39 : Brw) = brw true (0xF#4 ++ 0#2) (0#28 ++ 0xF#4) := by decide
    have all : cmd &&& 0xF#4 = cmd := BitVec.and_allOnes
    simp only [OpcodeRow.fits, mask, ctrlWord_and, all, beq_self_eq_true]⟩

theorem rd (off : BitVec 6) (data : Word) : Statement (.rd off data) := fun _ =>
  ⟨⟨"RD", 0x0#39, 0x4000000000#39⟩, by decide, rfl, by
    have mask : (0x4000000000#39 : Brw) = brw true 0#6 0#32 := by decide
    have none : (0#39 : Brw) = brw false 0#6 0#32 := by decide
    simp only [OpcodeRow.fits, encode, mask, none, brw_and, Bool.false_and, BitVec.and_zero, beq_self_eq_true]⟩

theorem nop (lo : BitVec 2) (ign : BitVec 28) : Statement (.nop lo ign) := fun _ =>
  ctrlRow "NOP" 0#4 lo ign (by decide)

theorem measure (lo : BitVec 2) (ign : BitVec 28) : Statement (.measure lo ign) := fun _ =>
  ctrlRow "MEASURE" 1#4 lo ign (by decide)

theorem measureLegacy (lo : BitVec 2) (ign : BitVec 28) : Statement (.measureLegacy lo ign) := fun _ =>
  ctrlRow "MEASURE_LEGACY" 2#4 lo ign (by decide)

theorem decode (lo : BitVec 2) (ign : BitVec 28) : Statement (.decode lo ign) := fun _ =>
  ctrlRow "DECODE" 3#4 lo ign (by decide)

theorem ctrlRsvd47 (lo : BitVec 2) (cmd : BitVec 4) (ign : BitVec 28) : Statement (.ctrlRsvd47 lo cmd ign) := fun wf =>
  ⟨⟨"CTRL_RSVD_4_7", 0x4000000004#39, 0x7c0000000c#39⟩, by decide, rfl, by
    have mask : (0x7c0000000c#39 : Brw) = brw true (0xF#4 ++ 0#2) (0#28 ++ 0xC#4) := by decide
    have range : ∀ c : BitVec 4, (decide (4 ≤ c.toNat) && decide (c.toNat ≤ 7)) = true → c &&& 0xC#4 = 0x4#4 := by decide
    have pat : (0x4000000004#39 : Brw) = ctrlWord 0#2 0x4#4 0#28 := by decide
    simp only [OpcodeRow.fits, encode, mask, pat, ctrlWord_and, range cmd wf, beq_self_eq_true]⟩

theorem ctrlRsvd8F (lo : BitVec 2) (cmd : BitVec 4) (ign : BitVec 28) : Statement (.ctrlRsvd8F lo cmd ign) := fun wf =>
  ⟨⟨"CTRL_RSVD_8_F", 0x4000000008#39, 0x7c00000008#39⟩, by decide, rfl, by
    have mask : (0x7c00000008#39 : Brw) = brw true (0xF#4 ++ 0#2) (0#28 ++ 0x8#4) := by decide
    have range : ∀ c : BitVec 4, decide (8 ≤ c.toNat) = true → c &&& 0x8#4 = 0x8#4 := by decide
    have pat : (0x4000000008#39 : Brw) = ctrlWord 0#2 0x8#4 0#28 := by decide
    simp only [OpcodeRow.fits, encode, mask, pat, ctrlWord_and, range cmd wf, beq_self_eq_true]⟩

theorem wrStatus (lo : BitVec 2) (data : Word) : Statement (.wrStatus lo data) := fun _ =>
  writeRow "WR_STATUS" 1#4 lo data (by decide)

theorem wrConfig (lo : BitVec 2) (data : Word) : Statement (.wrConfig lo data) := fun _ =>
  writeRow "WR_CONFIG" 2#4 lo data (by decide)

theorem wrFrameHi (lo : BitVec 2) (data : Word) : Statement (.wrFrameHi lo data) := fun _ =>
  writeRow "WR_FRAME_HI" 3#4 lo data (by decide)

theorem wrFrameLo (lo : BitVec 2) (data : Word) : Statement (.wrFrameLo lo data) := fun _ =>
  writeRow "WR_FRAME_LO" 4#4 lo data (by decide)

theorem wrHumidity (lo : BitVec 2) (data : Word) : Statement (.wrHumidity lo data) := fun _ =>
  writeRow "WR_HUMIDITY" 5#4 lo data (by decide)

theorem wrTempRaw (lo : BitVec 2) (data : Word) : Statement (.wrTempRaw lo data) := fun _ =>
  writeRow "WR_TEMP_RAW" 6#4 lo data (by decide)

theorem wrTemperature (lo : BitVec 2) (data : Word) : Statement (.wrTemperature lo data) := fun _ =>
  writeRow "WR_TEMPERATURE" 7#4 lo data (by decide)

theorem wrChecksum (lo : BitVec 2) (data : Word) : Statement (.wrChecksum lo data) := fun _ =>
  writeRow "WR_CHECKSUM" 8#4 lo data (by decide)

theorem wrProgress (lo : BitVec 2) (data : Word) : Statement (.wrProgress lo data) := fun _ =>
  writeRow "WR_PROGRESS" 9#4 lo data (by decide)

theorem wrParam (lo : BitVec 2) (data : Word) : Statement (.wrParam lo data) := fun _ =>
  writeRow "WR_PARAM" 10#4 lo data (by decide)

theorem wrUnmappedB (lo : BitVec 2) (data : Word) : Statement (.wrUnmappedB lo data) := fun _ =>
  writeRow "WR_UNMAPPED_B" 11#4 lo data (by decide)

theorem wrUnmappedC (lo : BitVec 2) (data : Word) : Statement (.wrUnmappedC lo data) := fun _ =>
  writeRow "WR_UNMAPPED_C" 12#4 lo data (by decide)

theorem wrUnmappedD (lo : BitVec 2) (data : Word) : Statement (.wrUnmappedD lo data) := fun _ =>
  writeRow "WR_UNMAPPED_D" 13#4 lo data (by decide)

theorem wrUnmappedE (lo : BitVec 2) (data : Word) : Statement (.wrUnmappedE lo data) := fun _ =>
  writeRow "WR_UNMAPPED_E" 14#4 lo data (by decide)

theorem wrUnmappedF (lo : BitVec 2) (data : Word) : Statement (.wrUnmappedF lo data) := fun _ =>
  writeRow "WR_UNMAPPED_F" 15#4 lo data (by decide)

end Sys2Proof.Laws.EncodesInItsRow
end

