-- ==== Sys2Proof/Tests/Slice0.lean ====
section
/-! SUPPORT. Small tests and the witnesses of the statements. Expected values are the spec's: the words and results of
spec/95_test_vectors.md and the examples of the rules, or a hand calculation from a rule, as each comment says. -/

namespace Sys2Proof.Tests

open Sys2Proof.Machine

/-! ## Helpers -/

/-- CYCLES_PER_US = 1 with the least widths it allows: 2^10 - 1 >= 999 and 2^0 - 1 >= 0 (R7). -/
def oneMhz : Params := ⟨1, 10, 0⟩

/-- CYCLES_PER_US = 4: 2^12 - 1 >= 3999 and 2^2 - 1 >= 3 (R7). -/
def fourMhz : Params := ⟨4, 12, 2⟩

/-- The block after reset at 1 MHz. -/
def idle1 : State := State.resetWith oneMhz

/-- The same with ST set. -/
def during (e : EngineState) : State := { idle1 with st := e }

/-- The state with one operation on the host's ports in its next cycle. -/
def hosting (i : Instr) (s : State) : State := { s with hostIn := [requestPorts (encode i)] }

/-- The state with `rst` = 1 in its next cycle. -/
def resetting (s : State) : State := { s with hostIn := [{ idlePorts with rst := true }] }

/-- The next state of an outcome, if there is one. -/
def nextOf (o : Host.Outcome State Fault Refusal) : Option State :=
  match o with
  | .next s => some s
  | .fault _ => none
  | .refused _ => none

/-- One field, or a few, of what an operation leaves. -/
def after {α : Type} (i : Instr) (s : State) (f : State → α) : Option α := (nextOf (exec i s)).map f

/-- The same of a step. -/
def stepping {α : Type} (s : State) (f : State → α) : Option α := (nextOf (step s)).map f

/-- V-D1: 65.8 % and 26.9 degrees. -/
def sampleFrame : Frame := 0x0292010DA2#40

/-- R149: 65.8 % and 26.9 degrees below zero. -/
theorem test_physical_values :
    humidityPercent { idle1 with hum := 658#16 } = 658 / 10
    ∧ temperatureCelsius { idle1 with tsign := true, tmag := 269#15 } = -269 / 10 := by
  decide +kernel

/-! ## Well-formedness: each check, with a term it refuses -/

theorem test_rsvd47_rejects_8 : (Instr.ctrlRsvd47 0#2 8#4 0#28).wellFormed = false := by decide
theorem test_rsvd47_rejects_3 : (Instr.ctrlRsvd47 0#2 3#4 0#28).wellFormed = false := by decide
theorem test_rsvd8F_rejects_7 : (Instr.ctrlRsvd8F 0#2 7#4 0#28).wellFormed = false := by decide
theorem test_rsvd_accept_their_ranges :
    (Instr.ctrlRsvd47 0#2 4#4 0#28).wellFormed = true ∧ (Instr.ctrlRsvd47 0#2 7#4 0#28).wellFormed = true
    ∧ (Instr.ctrlRsvd8F 0#2 8#4 0#28).wellFormed = true ∧ (Instr.ctrlRsvd8F 0#2 15#4 0#28).wellFormed = true := by decide
theorem test_form_offset_is_six_bits :
    (HostForm.rd 64 none).wellFormed = false ∧ (HostForm.rd 63 none).wellFormed = true := by decide
theorem test_form_value_is_a_word :
    (HostForm.wr 0 (2 ^ 32)).wellFormed = false ∧ (HostForm.wr 0 (2 ^ 32 - 1)).wellFormed = true := by decide
theorem test_form_frame_is_forty_bits :
    (HostForm.loadFrame (2 ^ 40)).wellFormed = false ∧ (HostForm.loadFrame (2 ^ 40 - 1)).wellFormed = true := by decide
theorem test_form_poll_mask_is_a_word : (HostForm.poll 4 (2 ^ 32) 0).wellFormed = false := by decide

/-- R7: the ranges of the parameters, at their ends. -/
theorem test_legal_parameters :
    legalParams oneMhz = true ∧ legalParams fourMhz = true ∧ legalParams ⟨65535, 26, 16⟩ = true
    ∧ legalParams ⟨0, 10, 0⟩ = false ∧ legalParams ⟨65536, 30, 20⟩ = false ∧ legalParams ⟨1, 9, 0⟩ = false
    ∧ legalParams ⟨4, 12, 1⟩ = false := by decide

/-! ## Decoding: one word of each row, written from R70 to R72: WE, then OFF, then DATA -/

/-- WE = 0, OFF = 0b100111, DATA ignored. -/
theorem test_decode_rd : decode 0b0100111_00000000000000000000000000000101#39 = .rd 0x27#6 5#32 := by decide
theorem test_decode_nop : decode 0b1000010_00000000000000000000000000010000#39 = .nop 2#2 1#28 := by decide
theorem test_decode_measure : decode 0b1000000_00000000000000000000000000000001#39 = .measure 0#2 0#28 := by decide
theorem test_decode_measureLegacy :
    decode 0b1000000_00000000000000000000000000000010#39 = .measureLegacy 0#2 0#28 := by decide
theorem test_decode_decode : decode 0b1000001_10000000000000000000000000000011#39 = .decode 1#2 0x8000000#28 := by decide
theorem test_decode_ctrlRsvd47 :
    decode 0b1000000_00000000000000000000000000000100#39 = .ctrlRsvd47 0#2 4#4 0#28 := by decide
theorem test_decode_ctrlRsvd8F :
    decode 0b1000000_00000000000000000000000000001000#39 = .ctrlRsvd8F 0#2 8#4 0#28 := by decide
theorem test_decode_wrStatus : decode 0b1000100_00000000000000000000000000100010#39 = .wrStatus 0#2 0x22#32 := by decide
theorem test_decode_wrConfig : decode 0b1001011_00000000000000000000000000000011#39 = .wrConfig 3#2 3#32 := by decide
theorem test_decode_wrFrameHi : decode 0b1001100_00000000000000000000000000000010#39 = .wrFrameHi 0#2 2#32 := by decide
theorem test_decode_wrFrameLo :
    decode 0b1010000_10010010000000010000110110100010#39 = .wrFrameLo 0#2 0x92010DA2#32 := by decide
theorem test_decode_wrHumidity :
    decode 0b1010100_00000000000000000001001000110100#39 = .wrHumidity 0#2 0x1234#32 := by decide
theorem test_decode_wrTempRaw : decode 0b1011000_00000000000000000000000000000001#39 = .wrTempRaw 0#2 1#32 := by decide
theorem test_decode_wrTemperature :
    decode 0b1011100_00000000000000000000000000000001#39 = .wrTemperature 0#2 1#32 := by decide
theorem test_decode_wrChecksum : decode 0b1100000_00000000000000000000000000000001#39 = .wrChecksum 0#2 1#32 := by decide
theorem test_decode_wrProgress : decode 0b1100100_00000000000000000000000000000001#39 = .wrProgress 0#2 1#32 := by decide
theorem test_decode_wrParam : decode 0b1101000_00000000000000000000000000000001#39 = .wrParam 0#2 1#32 := by decide
theorem test_decode_wrUnmappedB : decode 0b1101100_00000000000000000000000000000001#39 = .wrUnmappedB 0#2 1#32 := by decide
theorem test_decode_wrUnmappedC : decode 0b1110000_00000000000000000000000000000001#39 = .wrUnmappedC 0#2 1#32 := by decide
theorem test_decode_wrUnmappedD : decode 0b1110100_00000000000000000000000000000001#39 = .wrUnmappedD 0#2 1#32 := by decide
theorem test_decode_wrUnmappedE : decode 0b1111000_00000000000000000000000000000001#39 = .wrUnmappedE 0#2 1#32 := by decide
theorem test_decode_wrUnmappedF :
    decode 0b1111100_11111111111111111111111111111111#39 = .wrUnmappedF 0#2 0xFFFFFFFF#32 := by decide

/-- The host's two questions, on one word: the table's numbering is the BRW's. -/
theorem test_decodeTableWord : decodeTableWord 40 0x5092010DA2 = some (.wrFrameLo 0#2 0x92010DA2#32) := by decide
theorem test_withFetchWord :
    stepping (idle1.withFetchWord 40 0x4000000001) (fun t => (t.st, t.modeB)) = some (.trigH0, true) := by decide

/-- V-B6 and D8: a four-byte access is refused by name. -/
theorem test_narrow_access_is_refused : decodeBytes [0#8, 0#8, 0#8, 0#8] = .error .narrowAccess := by rfl
theorem test_bit39_is_refused : decodeBytes [0#8, 0#8, 0#8, 0#8, 0x80#8] = .error .bit39Set := by rfl

/-! ## One operation, one step -/

/-- R160, R73: BUSY, LINE and MODE together read 0xC1 (the example of R100). -/
theorem test_rd_status :
    after (.rd 0x04#6 0#32) { during .trigOe with modeB := true, sync1 := true } (fun t => t.busRdata)
      = some 0xC1#32 := by decide
/-- R54, R86: offset 0x27 is PROGRESS; ST = BIT_F is 9, 39 bits are 0x27. -/
theorem test_rd_progress_misaligned :
    after (.rd 0x27#6 0#32) { during (.wait .bitF) with bitcnt := 39#6 } (fun t => t.busRdata) = some 0x927#32 := by decide
/-- R84: 26.9 degrees below zero reads 2^32 - 269. -/
theorem test_rd_temperature_negative :
    after (.rd 0x1C#6 0#32) { idle1 with tsign := true, tmag := 269#15 } (fun t => t.busRdata)
      = some 0xFFFFFEF3#32 := by decide
/-- R162: NOP while busy does not set CMDERR. -/
theorem test_nop_busy : after (.nop 0#2 1#28) (during .trigLow) (fun t => t.cmderr) = some false := by decide
/-- R100. -/
theorem test_measure_accept :
    after (.measure 0#2 0#28) { idle1 with done := true, result := .ok } (fun t => (t.st, t.modeB, t.done, t.result))
      = some (.trigH0, true, false, .none) := by decide
/-- R161: while busy it only sets CMDERR. -/
theorem test_measure_busy :
    after (.measure 0#2 0#28) (during .trigLow) (fun t => (t.st, t.cmderr)) = some (.trigLow, true) := by decide
/-- R101: CONFIG.PACE is latched (its example). -/
theorem test_measureLegacy_accept :
    after (.measureLegacy 0#2 0#28) { idle1 with modeB := true } (fun t => (t.st, t.modeB, t.paceL))
      = some (.trigH0, false, true) := by decide
/-- R140: MODE_B and BITCNT are kept. -/
theorem test_decode_accept :
    after (.decode 0#2 0#28) { idle1 with modeB := true, bitcnt := 40#6 } (fun t => (t.st, t.modeB, t.bitcnt))
      = some (.decode, true, 40#6) := by decide
/-- R161: a reserved command is ignored even when IDLE. -/
theorem test_ctrlRsvd47 : after (.ctrlRsvd47 0#2 7#4 0#28) idle1 (fun t => (t.st, t.cmderr)) = some (.idle, true) := by
  decide
theorem test_ctrlRsvd8F : after (.ctrlRsvd8F 0#2 15#4 0#28) idle1 (fun t => (t.st, t.cmderr)) = some (.idle, true) := by
  decide
/-- R163: a 1 clears, a 0 does not. -/
theorem test_wrStatus_done :
    after (.wrStatus 0#2 0x2#32) { idle1 with done := true, cmderr := true } (fun t => (t.done, t.cmderr))
      = some (false, true) := by decide
theorem test_wrStatus_cmderr :
    after (.wrStatus 0#2 0x20#32) { idle1 with done := true, cmderr := true } (fun t => (t.done, t.cmderr))
      = some (true, false) := by decide
/-- R164: its example. -/
theorem test_wrConfig : after (.wrConfig 0#2 0x1#32) idle1 (fun t => (t.cfgIe, t.cfgPace)) = some (true, false) := by decide
/-- R166: its example, DATA[31:8] ignored; lost while busy. -/
theorem test_wrFrameHi :
    after (.wrFrameHi 0#2 0x102#32) { idle1 with frame := 0x0092010DA2#40 } (fun t => t.frame)
      = some sampleFrame := by decide
theorem test_wrFrameHi_busy :
    after (.wrFrameHi 0#2 0x102#32) (during .trigH0) (fun t => t.frame) = some 0#40 := by decide
/-- R167: its example. -/
theorem test_wrFrameLo :
    after (.wrFrameLo 0#2 0x92010DA2#32) { idle1 with frame := 0x0200000000#40 } (fun t => t.frame)
      = some sampleFrame := by decide
/-- R165: its example, and the other read-only registers. -/
theorem test_wrHumidity :
    after (.wrHumidity 0#2 0x1234#32) { idle1 with hum := 658#16 } (fun t => (t.hum, t.cmderr))
      = some (658#16, false) := by decide
theorem test_wrTempRaw : after (.wrTempRaw 0#2 1#32) idle1 (fun t => (t.tmag, t.cmderr)) = some (0#15, false) := by decide
theorem test_wrTemperature :
    after (.wrTemperature 0#2 1#32) idle1 (fun t => (t.tmag, t.cmderr)) = some (0#15, false) := by decide
theorem test_wrChecksum : after (.wrChecksum 0#2 1#32) idle1 (fun t => (t.rxsum, t.cmderr)) = some (0#8, false) := by decide
theorem test_wrProgress :
    after (.wrProgress 0#2 1#32) idle1 (fun t => (t.bitcnt, t.cmderr)) = some (0#6, false) := by decide
theorem test_wrParam :
    after (.wrParam 0#2 7#32) idle1 (fun t => (t.params.cyclesPerUs, t.cmderr)) = some (1, false) := by decide
/-- R168. -/
theorem test_wrUnmapped :
    after (.wrUnmappedB 0#2 1#32) idle1 id = some idle1 ∧ after (.wrUnmappedC 0#2 1#32) idle1 id = some idle1
    ∧ after (.wrUnmappedD 0#2 1#32) idle1 id = some idle1 ∧ after (.wrUnmappedE 0#2 1#32) idle1 id = some idle1
    ∧ after (.wrUnmappedF 0#2 0xFFFFFFFF#32) idle1 id = some idle1 := by decide

/-! ## One cycle of the engine -/

/-- R141: the example of the rule; R154: the sign flipped alone is a mismatch. -/
theorem test_step_decode :
    stepping { during .decode with frame := sampleFrame } (fun t => (t.result, t.hum, t.tsign, t.tmag))
      = some (.ok, 658#16, false, 269#15) := by decide
theorem test_step_decode_mismatch :
    stepping { during .decode with frame := 0x0292810DA2#40 } (fun t => (t.result, t.hum, t.calcsum))
      = some (.checksum, 0#16, 0x22#8) := by decide
/-- R104: the last cycle of TRIG_LOW, and the one before it. -/
theorem test_step_trigLow :
    stepping { during .trigLow with tcnt := 999 } (fun t => t.st) = some .trigH1
    ∧ stepping { during .trigLow with tcnt := 998 } (fun t => (t.st, t.tcnt)) = some (.trigLow, 999) := by decide
/-- R112: strict, and completion first. -/
theorem test_step_timeout :
    stepping { during (.wait .preF1) with modeB := true, sync1 := true, tcnt := 101 }
        (fun t => (t.st, t.result, t.toState)) = some (.idle, .timeout, some .preF1)
    ∧ stepping { during (.wait .preF1) with modeB := true, sync1 := true, tcnt := 100 } (fun t => t.st)
        = some (.wait .preF1)
    ∧ stepping { during (.wait .preF1) with modeB := true, arm := true, tcnt := 101 } (fun t => t.st)
        = some (.wait .preR) := by decide
/-- R116, R119: 50 us is a 0, one cycle more is a 1. -/
theorem test_step_classify :
    stepping { during (.wait .bitF) with arm := true, tcnt := 49 } (fun t => (t.shift, t.bitcnt)) = some (0#40, 1#6)
    ∧ stepping { during (.wait .bitF) with arm := true, tcnt := 50 } (fun t => (t.shift, t.bitcnt)) = some (1#40, 1#6) := by
  decide
/-- R111: at 4 MHz a paced wait samples in its cycle 0, then three cycles later has counted down from 3. -/
theorem test_step_paced :
    stepping { State.resetWith fourMhz with st := .wait .preF1, paceL := true } (fun t => (t.arm, t.pcnt)) = some (false, 3)
    ∧ stepping { State.resetWith fourMhz with st := .wait .preF1, paceL := true, sync1 := true, pcnt := 3 }
        (fun t => (t.arm, t.pcnt)) = some (false, 2) := by decide

/-- R89: the expansion of LOAD_FRAME, and of WAIT_DONE. -/
theorem test_expand :
    (HostForm.loadFrame 0x0292010DA2).expand = [.wr 0x0C#6 0x02#32, .wr 0x10#6 0x92010DA2#32]
    ∧ HostForm.waitDone.expand = [.poll 0x04#6 0x2#32 0x2#32] := by decide
/-- R89, on V-A5's `LINE @4004: 0 x 10, 1 x 20, 0 x 50`: not stated before, 20 cycles high, low for ever after. -/
theorem test_lineStimulus :
    let line : LineStimulus := ⟨4004, [(false, 10), (true, 20), (false, 50)]⟩
    line.levelAt 4003 = none ∧ line.levelAt 4004 = some false ∧ line.levelAt 4014 = some true
    ∧ line.levelAt 4033 = some true ∧ line.levelAt 4034 = some false ∧ line.levelAt 4084 = some false
    ∧ line.levelAt 9999 = some false := by decide
/-- R89: the level lasts until another LINE form states one. -/
theorem test_lineAt :
    lineAt [⟨0, [(true, 1)]⟩, ⟨5, [(false, 1)]⟩] 4 = some true
    ∧ lineAt [⟨0, [(true, 1)]⟩, ⟨5, [(false, 1)]⟩] 7 = some false := by decide

/-! ## Witnesses: for each statement, a state and operands that meet its hypotheses together -/

/-- A wait of the preamble's first falling edge, at its start. -/
def preF1Start : State := { during (.wait .preF1) with modeB := true, bitcnt := 0#6 }

/-- Clean pulses, each of one low cycle, two high ones, and the low one that ends it. -/
def fortyPulses : List (Nat × Nat) := List.replicate 40 (1, 2)

/-- The levels of the forty pulses. -/
def fortyLevels : List Bool :=
  fortyPulses.flatMap fun q => List.replicate q.1 false ++ List.replicate q.2 true ++ [false]

/-- BIT_R's first cycle, with the forty pulses to come. -/
def fortyStart : State :=
  { during (.wait .bitR) with sync1 := false, sync0 := true, lineIn := fortyLevels.drop 2 }

theorem witness_DecodeOfEncodeIsTheInstruction : (Instr.ctrlRsvd8F 0#2 15#4 0#28).wellFormed = true := by decide

theorem witness_EveryRequestWordSelectsExactlyOneRow :
    idlePorts.busValid = false ∧ (requestPorts 0x4000000001#39).busValid = true := by decide

theorem witness_OnlyAWholeRequestDecodes :
    (Instr.measure 0#2 0#28).wellFormed = true ∧ [0#8, 0#8, 0#8, 0#8].length < 5
    ∧ 5 < [0#8, 0#8, 0#8, 0#8, 0#8, 0#8].length := by decide

theorem witness_StepRunsTheDecodedOperation :
    Runs (hosting (.nop 0#2 0#28) idle1) ∧ portsRequest (hosting (.nop 0#2 0#28) idle1).ports = some 0x4000000000#39
    ∧ exec (decode 0x4000000000#39) (beginCycle (hosting (.nop 0#2 0#28) idle1))
        = .next (beginCycle (hosting (.nop 0#2 0#28) idle1))
    ∧ Runs idle1 ∧ PresentsNothing idle1 ∧ (Instr.nop 0#2 0#28).wellFormed = true ∧ idle1.result ≠ .invalidFrame :=
  ⟨by decide, by decide, rfl, by decide, by decide, by decide, by decide⟩

theorem witness_ResetCycleDoesOnlyTheResetAction : (resetting (during .trigLow)).ports.rst = true := by decide

theorem witness_SynchronizerShiftsEveryCycle : (resetting idle1).ports.rst = true ∧ Runs idle1 := by decide

theorem witness_ResetHeldKeepsTheResetState :
    0 < 1 ∧ 1 ≤ (resetting (during .trigLow)).hostIn.length
    ∧ ∀ p ∈ (resetting (during .trigLow)).hostIn.take 1, p.rst = true := by decide

theorem witness_StateAfterResetAsTheHostSeesIt :
    legalParams oneMhz = true ∧ 3 ≤ [true, true, true].length ∧ 2 ≤ 3 ∧ [true, true, true][3 - 2]? = some true := by decide

/-- Each clause of the read, at the ends of the range of offsets it covers. -/
theorem witness_ReadReturnsTheRegister :
    (0x00#6).toNat / 4 = 0 ∧ (0x03#6).toNat / 4 = 0 ∧ (0x04#6).toNat / 4 = 1 ∧ (0x0B#6).toNat / 4 = 2
    ∧ (0x0C#6).toNat / 4 = 3 ∧ (0x13#6).toNat / 4 = 4 ∧ (0x14#6).toNat / 4 = 5 ∧ (0x1B#6).toNat / 4 = 6
    ∧ (0x1C#6).toNat / 4 = 7 ∧ (0x23#6).toNat / 4 = 8 ∧ (0x24#6).toNat / 4 = 9 ∧ (0x2B#6).toNat / 4 = 10
    ∧ 11 ≤ (0x2C#6).toNat / 4 ∧ 11 ≤ (0x3F#6).toNat / 4
    ∧ Runs (hosting (.rd 0x3F#6 0#32) idle1) ∧ Presents (hosting (.rd 0x3F#6 0#32) idle1) (.rd 0x3F#6 0#32)
    ∧ (resetting idle1).ports.rst = true := by decide

theorem witness_ReadReturnsTheRegister_no_read : Runs idle1 ∧ ∀ off data, ¬ Presents idle1 (.rd off data) :=
  ⟨by decide, fun _ _ h => nomatch h⟩

theorem witness_ReadsHaveNoSideEffect : (during .trigLow).result ≠ .invalidFrame := by decide

theorem witness_LowAddressBitsAreIgnored : (0x27#6).toNat / 4 = (requestPorts (encode (.rd 0x24#6 0#32))).busAddr.toNat / 4 := by
  decide

/-- Each command code at the ends of its range, in IDLE and while busy. -/
theorem witness_CtrlWriteFollowsItsCommand :
    4 ≤ (4#4).toNat ∧ 4 ≤ (15#4).toNat ∧ idle1.st = .idle ∧ (during .trigH0).st ≠ .idle ∧ (during .decode).st ≠ .idle := by
  decide

theorem witness_ReadOnlyRegistersIgnoreWrites :
    let s := { during .decode with frame := sampleFrame }
    s.ports.rst = false ∧ ∃ t, step s = .next t ∧ t.hum ≠ s.hum :=
  ⟨by decide, _, rfl, by decide⟩

theorem witness_StatusWriteAcknowledges :
    let s := hosting (.wrStatus 0#2 0x2#32) { idle1 with done := true }
    let d := hosting (.wrStatus 0#2 0x2#32) (during .decode)
    Runs s ∧ Presents s (.wrStatus 0#2 0x2#32) ∧ ¬ Finishes s ∧ (0x2#32).getLsbD 1 = true
    ∧ Runs d ∧ Presents d (.wrStatus 0#2 0x2#32) ∧ Finishes d :=
  ⟨by decide, by decide, by rintro (h | ⟨w, h, -⟩) <;> exact (nomatch h), by decide, by decide, by decide, .inl rfl⟩

theorem witness_ConfigWriteStoresItsTwoBits :
    Runs (hosting (.wrConfig 0#2 0x1#32) (during .trigLow))
    ∧ Presents (hosting (.wrConfig 0#2 0x1#32) (during .trigLow)) (.wrConfig 0#2 0x1#32) := by decide

theorem witness_FrameWritesOnlyWhileIdle : idle1.st = .idle ∧ (during .trigH0).st ≠ .idle := by decide

theorem witness_TriggerStatesTakeOneCycle :
    (Runs (during .trigH0) ∧ (during .trigH0).st = .trigH0) ∧ (Runs (during .trigOe) ∧ (during .trigOe).st = .trigOe)
    ∧ Runs (during .trigH1) ∧ (during .trigH1).st = .trigH1 := by decide

/-- Both commands, and the first and the last cycle of the statement. -/
theorem witness_TriggerWaveform :
    let s := hosting (.measure 0#2 0#28) idle1
    let l := hosting (.measureLegacy 0#2 0#28) idle1
    legalParams s.params = true ∧ Runs s ∧ s.st = .idle ∧ Presents s (.measure 0#2 0#28)
    ∧ Presents l (.measureLegacy 0#2 0#28) ∧ NoReset (1000 * s.params.cyclesPerUs + 4) s
    ∧ 1 ≤ 1 ∧ 1004 ≤ 1000 * s.params.cyclesPerUs + 4 := by decide

/-- A cycle that completes the wait, one that times it out, one that does neither, and a paced one. -/
theorem witness_EdgeWaitStepAsWritten :
    let c := { during (.wait .bitF) with arm := true, bitcnt := 39#6 }
    let t := { during (.wait .bitR) with modeB := true, tcnt := 101 }
    let n := { during (.wait .bitR) with modeB := true, tcnt := 100 }
    let p := { during (.wait .preF1) with paceL := true, pcnt := 0 }
    (Runs c ∧ c.st = .wait .bitF ∧ (false = true ↔ EdgeWait.bitF = .preR ∨ EdgeWait.bitF = .bitR)
      ∧ c.arm = true ∧ c.sync1 = false)
    ∧ (Runs t ∧ t.st = .wait .bitR ∧ (true = true ↔ EdgeWait.bitR = .preR ∨ EdgeWait.bitR = .bitR)
      ∧ t.arm = false ∧ t.modeB = true ∧ 100 * t.params.cyclesPerUs < t.tcnt)
    ∧ (Runs n ∧ n.st = .wait .bitR ∧ n.arm = false ∧ ¬ 100 * n.params.cyclesPerUs < n.tcnt)
    ∧ (Runs p ∧ p.st = .wait .preF1 ∧ p.modeB = false ∧ p.paceL = true ∧ p.arm = false ∧ p.pcnt = 0) := by decide

theorem witness_AWaitNeedsAnEdge :
    let s := { during (.wait .preF1) with arm := true }
    let u := { during (.wait .preF1) with sync1 := true }
    (s.ports.rst = false ∧ s.st = .wait .preF1 ∧ ∃ t, step s = .next t ∧ t.st = .wait .preR)
    ∧ (u.ports.rst = false ∧ u.st = .wait .preF1 ∧ ∃ t, step u = .next t ∧ t.st = .wait .preF1 ∧ t.arm = true) :=
  ⟨⟨by decide, by decide, _, rfl, by decide⟩, by decide, by decide, _, rfl, by decide⟩

/-- The clauses at the two sides of the bound. -/
theorem witness_TimeoutIsStrictAndCompletionWins :
    let s := { during (.wait .preF1) with modeB := true, tcnt := 101 }
    let u := { during (.wait .preF1) with modeB := true, tcnt := 100 }
    let c := { during (.wait .preF1) with modeB := true, tcnt := 101, arm := true }
    (Runs s ∧ s.st = .wait .preF1 ∧ ¬ (s.arm = true ∧ s.sync1 = targetLevel .preF1) ∧ s.modeB = true
      ∧ 100 * s.params.cyclesPerUs < s.tcnt)
    ∧ (Runs u ∧ u.st = .wait .preF1 ∧ u.tcnt ≤ 100 * u.params.cyclesPerUs)
    ∧ (Runs c ∧ c.st = .wait .preF1 ∧ c.arm = true ∧ c.sync1 = targetLevel .preF1)
    ∧ (during (.wait .preR)).modeB = false := by decide

theorem witness_CaptureAppendsTheClassifiedBit :
    let s := { during (.wait .bitF) with arm := true, bitcnt := 39#6 }
    let u := { during (.wait .bitF) with arm := true, bitcnt := 38#6 }
    (Runs s ∧ s.st = .wait .bitF ∧ s.arm = true ∧ s.sync1 = false ∧ s.bitcnt.toNat + 1 = 40)
    ∧ (Runs u ∧ u.st = .wait .bitF ∧ u.arm = true ∧ u.sync1 = false ∧ u.bitcnt.toNat + 1 ≠ 40) := by decide

/-- The samples of a preamble of z low, a high, 2 low and 2 high ones. -/
def preambleLevels (z a : Nat) : List Bool :=
  List.replicate z false ++ List.replicate a true ++ List.replicate 2 false ++ List.replicate 2 true ++ [false]

/-- The state with those samples to come. -/
def withPreamble (z a : Nat) (s : State) : State :=
  { s with
    sync1 := (preambleLevels z a)[0]?.getD false, sync0 := (preambleLevels z a)[1]?.getD false
    lineIn := (preambleLevels z a).drop 2 }

/-- The state meets the hypotheses of PreambleIsConsumed that do not speak of pacing. -/
abbrev PreambleFits (z a : Nat) (s : State) : Prop :=
  legalParams s.params = true ∧ s.result ≠ .invalidFrame ∧ s.st = .wait .preF1 ∧ s.tcnt = 0 ∧ s.arm = false
  ∧ s.pcnt = 0 ∧ 1 ≤ a
  ∧ (s.modeB = true → z + a ≤ 100 * s.params.cyclesPerUs + 1 ∧ 2 ≤ 100 * s.params.cyclesPerUs + 2)
  ∧ s.sync1 :: s.sync0 :: s.lineIn = List.replicate z false ++ List.replicate a true ++ List.replicate 2 false
    ++ List.replicate 2 true ++ false :: []
  ∧ NoReset (z + a + 2 + 2 + 1) s

/-- A paced wait of the first falling edge at 4 MHz. -/
def pacedStart : State := { State.resetWith fourMhz with st := .wait .preF1, paceL := true }

/-- Bounded, with no leading low sample, with one (after the trigger, R247), and with as many as the bound allows; and
paced at 4 MHz, where the sample of cycle 12 falls into the high run of V-A5, cycles 10 to 29. -/
theorem witness_PreambleIsConsumed :
    PreambleFits 0 1 (withPreamble 0 1 preF1Start) ∧ PreambleFits 1 31 (withPreamble 1 31 preF1Start)
    ∧ PreambleFits 100 1 (withPreamble 100 1 preF1Start) ∧ preF1Start.modeB = true
    ∧ PreambleFits 10 20 (withPreamble 10 20 pacedStart) ∧ pacedStart.modeB = false ∧ pacedStart.paceL = true
    ∧ 10 ≤ 3 * pacedStart.params.cyclesPerUs ∧ 3 * pacedStart.params.cyclesPerUs < 10 + 20 :=
  ⟨by decide, by decide, by decide, by decide, by decide, by decide, by decide, by decide, by decide⟩

theorem witness_CleanPulseIsMeasuredExactly :
    let s := { during (.wait .bitR) with sync1 := false, sync0 := true, lineIn := [true, false], bitcnt := 39#6 }
    legalParams s.params = true ∧ s.result ≠ .invalidFrame ∧ s.st = .wait .bitR ∧ s.tcnt = 0 ∧ s.arm = false
    ∧ s.bitcnt.toNat < 40 ∧ 1 ≤ 1 ∧ 2 ≤ 2
    ∧ (s.modeB = true → 1 ≤ 100 * s.params.cyclesPerUs + 1 ∧ 2 ≤ 100 * s.params.cyclesPerUs + 2)
    ∧ s.sync1 :: s.sync0 :: s.lineIn = List.replicate 1 false ++ List.replicate 2 true ++ false :: []
    ∧ NoReset (1 + 2 + 1) s := by decide

theorem witness_FortyPulsesAreCapturedInWireOrder :
    legalParams fortyStart.params = true ∧ fortyStart.result ≠ .invalidFrame ∧ fortyStart.st = .wait .bitR
    ∧ fortyStart.tcnt = 0 ∧ fortyStart.arm = false ∧ fortyStart.bitcnt = 0#6 ∧ fortyStart.shift = 0#40
    ∧ fortyPulses.length = 40
    ∧ (∀ q ∈ fortyPulses, 1 ≤ q.1 ∧ 2 ≤ q.2 ∧ (fortyStart.modeB = true
        → q.1 ≤ 100 * fortyStart.params.cyclesPerUs + 1 ∧ q.2 ≤ 100 * fortyStart.params.cyclesPerUs + 2))
    ∧ fortyStart.sync1 :: fortyStart.sync0 :: fortyStart.lineIn = fortyLevels ++ []
    ∧ NoReset (fortyPulses.map fun q => q.1 + q.2 + 1).sum fortyStart ∧ fortyPulses[39]? = some (1, 2) := by
  refine ⟨by decide, by decide, rfl, rfl, rfl, rfl, rfl, rfl, by decide, rfl, ?_, rfl⟩
  rintro p ⟨⟩

theorem witness_BoundedAcquisitionEnds :
    let s := hosting (.measure 0#2 0#28) idle1
    legalParams s.params = true ∧ Runs s ∧ s.st = .idle ∧ Presents s (.measure 0#2 0#28)
    ∧ NoReset (3 + 1000 * s.params.cyclesPerUs + 83 * (100 * s.params.cyclesPerUs + 2) + 1 + 1) s := by decide

theorem witness_UnboundedWaitHangsOnASilentLine :
    let s := { during (.wait .preR) with lineIn := [false, false, false] }
    s.result ≠ .invalidFrame ∧ s.modeB = false ∧ s.st = .wait .preR ∧ s.sync1 = false ∧ s.sync0 = false
    ∧ 3 ≤ s.lineIn.length ∧ (∀ b ∈ s.lineIn.take 3, b = false) ∧ (s.arm = true → false ≠ targetLevel .preR)
    ∧ NoReset 3 s := by decide

/-- A frame that matches and one that does not. -/
theorem witness_DecodeStepValidatesAndScales :
    let s := { during .decode with frame := sampleFrame }
    Runs s ∧ s.st = .decode ∧ 0x02 = s.frame.toNat / 2 ^ 32 % 256 ∧ 0x92 = s.frame.toNat / 2 ^ 24 % 256
    ∧ 0x01 = s.frame.toNat / 2 ^ 16 % 256 ∧ 0x0D = s.frame.toNat / 2 ^ 8 % 256 ∧ 0xA2 = s.frame.toNat % 256
    ∧ (0x02 + 0x92 + 0x01 + 0x0D) % 256 = 0xA2 ∧ (0xFF + 0xFF + 0xFF + 0xFF) % 256 ≠ 0xFF := by decide

theorem witness_AlteredChecksumIsRejected :
    let s := { during .decode with frame := 0x0292010DA3#40 }
    Runs s ∧ s.st = .decode ∧ s.frame = 0x02#8 ++ 0x92#8 ++ 0x01#8 ++ 0x0D#8 ++ 0xA3#8
    ∧ ((0x02#8).toNat + (0x92#8).toNat + (0x01#8).toNat + (0x0D#8).toNat) % 256 = (0xA2#8).toNat ∧ 0xA3#8 ≠ 0xA2#8
    ∧ sampleFrame = 0x02#8 ++ 0x92#8 ++ 0x01#8 ++ 0x0D#8 ++ 0xA2#8 := by decide

/-- The three frames of R154's example. -/
theorem witness_SignBitNegatesTheTemperature :
    let s := { during .decode with frame := sampleFrame }
    let s' := { during .decode with frame := 0x0292810D22#40 }
    let s'' := { during .decode with frame := 0x0292810DA2#40 }
    Runs s ∧ Runs s' ∧ Runs s'' ∧ s.st = .decode ∧ s'.st = .decode ∧ s''.st = .decode
    ∧ s.frame = 0x02#8 ++ 0x92#8 ++ 0x01#8 ++ 0x0D#8 ++ 0xA2#8 ∧ (0x01#8).toNat < 128
    ∧ ((0x02#8).toNat + (0x92#8).toNat + (0x01#8).toNat + (0x0D#8).toNat) % 256 = (0xA2#8).toNat
    ∧ s'.frame = 0x02#8 ++ 0x92#8 ++ (0x01#8 ||| 0x80#8) ++ 0x0D#8 ++ (0xA2#8 + 0x80#8)
    ∧ s''.frame = 0x02#8 ++ 0x92#8 ++ (0x01#8 ||| 0x80#8) ++ 0x0D#8 ++ 0xA2#8 := by decide

theorem witness_DecodeIsAFunctionOfTheFrame :
    let s := during .decode
    let s' := { during .decode with modeB := true, bitcnt := 40#6, hum := 658#16 }
    let dec := requestPorts (encode (.decode 0#2 0#28))
    let u := { idle1 with hostIn := [dec, idlePorts, dec, idlePorts] }
    Runs s ∧ Runs s' ∧ s.st = .decode ∧ s'.st = .decode ∧ s.frame = s'.frame
    ∧ u.st = .idle ∧ u.result ≠ .invalidFrame ∧ u.hostIn = dec :: idlePorts :: dec :: idlePorts :: [] := by decide

theorem witness_TemperatureReadsSignedTenths :
    let s := { idle1 with tsign := true }
    s.tsign = true ∧ s.tmag = 0#15 := by decide

theorem witness_HostDecodesAnyFrame :
    0x0292010DA2 < 2 ^ 40 ∧ idle1.st = .idle ∧ idle1.result ≠ .invalidFrame ∧ idle1.hostIn = [] := by decide

/-- The first and the last cycle of a segment, and the first cycle after the last one. -/
theorem witness_LineStimulusDrivesThePin :
    let line : LineStimulus := ⟨2, [(true, 3)]⟩
    1 < line.start ∧ 0 < 3 ∧ 2 < 3 ∧ 1 ≤ 3 ∧ line.levelAt 5 = some true ∧ idle1.result ≠ .invalidFrame := by
  decide

/-- A wait that times out, and a decode. -/
theorem witness_OperationsEndOnlyByFinish :
    let s := { during (.wait .bitF) with modeB := true, tcnt := 101 }
    Runs s ∧ s.st ≠ .idle ∧ Finishes s ∧ s.st ≠ .decode ∧ Runs (during .decode) ∧ Finishes (during .decode) :=
  ⟨by decide, by decide, .inr ⟨.bitF, by decide, by decide, by decide⟩, by decide, by decide, .inl rfl⟩

/-- The last cycles of an acquisition, one for each row of R202's table, and a DECODE. -/
theorem witness_EachResultLeavesWhatItsRowSays :
    let o := { during (.wait .bitF) with arm := true, bitcnt := 39#6 }
    let t := { during (.wait .preF1) with modeB := true, tcnt := 101 }
    let c := { during (.wait .bitF) with arm := true, bitcnt := 39#6, shift := 1#40 }
    let d := hosting (.decode 0#2 0#28) idle1
    (Inv o ∧ o.st ≠ .idle ∧ o.st ≠ .decode ∧ NoReset 2 o ∧ (endOfOperation 2 o).map (fun u => u.result) = some .ok)
    ∧ (Inv t ∧ t.st ≠ .idle ∧ t.st ≠ .decode ∧ NoReset 1 t
      ∧ (endOfOperation 1 t).map (fun u => u.result) = some .timeout)
    ∧ (Inv c ∧ c.st ≠ .idle ∧ c.st ≠ .decode ∧ NoReset 2 c
      ∧ (endOfOperation 2 c).map (fun u => u.result) = some .checksum)
    ∧ (Runs d ∧ d.st = .idle ∧ Presents d (.decode 0#2 0#28) ∧ NoReset 2 d) := by
  refine ⟨⟨?_, ?_⟩, ⟨?_, ?_⟩, ⟨?_, ?_⟩, by decide⟩ <;>
    first
    | decide
    | (constructor <;> first | decide | exact fun w h => by cases h; decide)

theorem witness_IgnoredCommandSetsOnlyCmderr :
    Runs (hosting (.measure 0#2 0#28) (during .trigLow)) ∧ IgnoresCommand (hosting (.measure 0#2 0#28) (during .trigLow))
    ∧ Runs (hosting (.ctrlRsvd47 0#2 4#4 0#28) idle1) ∧ IgnoresCommand (hosting (.ctrlRsvd47 0#2 4#4 0#28) idle1)
    ∧ Runs (hosting (.ctrlRsvd8F 0#2 15#4 0#28) idle1) ∧ IgnoresCommand (hosting (.ctrlRsvd8F 0#2 15#4 0#28) idle1) :=
  ⟨by decide, .inl ⟨by decide, 0#2, 0#28, by decide⟩, by decide, .inr ⟨0#2, 4#4, 0#28, by decide⟩, by decide,
    .inr ⟨0#2, 15#4, 0#28, by decide⟩⟩

/-- A command is accepted; a wait finishes; and a cycle that does neither. -/
theorem witness_ResultHoldsUntilTheNextCommand :
    let a := hosting (.measure 0#2 0#28) idle1
    Runs a ∧ Accepts a ∧ Runs (during .decode) ∧ Finishes (during .decode) ∧ Runs idle1 ∧ ¬ Accepts idle1
    ∧ ¬ Finishes idle1 :=
  ⟨by decide, ⟨by decide, 0#2, 0#28, by decide⟩, by decide, .inl rfl, by decide,
    fun ⟨_, _, _, h⟩ => by rcases h with h | h | h <;> exact (nomatch h),
    by rintro (h | ⟨w, h, -⟩) <;> exact nomatch h⟩

theorem witness_DoneIsStickyUntilAcknowledged :
    let s := hosting (.wrStatus 0#2 0x2#32) { idle1 with done := true }
    (resetting s).ports.rst = true ∧ Runs s ∧ s.done = true ∧ Presents s (.wrStatus 0#2 0x2#32)
    ∧ (0x2#32).getLsbD 1 = true := by decide

theorem witness_CmderrIsStickyUntilAcknowledged :
    let s := hosting (.wrStatus 0#2 0x20#32) { idle1 with cmderr := true }
    (resetting s).ports.rst = true ∧ Runs s ∧ s.cmderr = true ∧ Presents s (.wrStatus 0#2 0x20#32)
    ∧ (0x20#32).getLsbD 5 = true := by decide

theorem witness_InterruptIsALevel :
    let s := hosting (.wrStatus 0#2 0x2#32) { idle1 with done := true, cfgIe := true }
    Runs (during .decode) ∧ Finishes (during .decode) ∧ irq s = true ∧ ∃ t, step s = .next t ∧ irq t = false :=
  ⟨by decide, .inl rfl, by decide, _, rfl, by decide⟩

theorem witness_SameCycleConflicts :
    let a := hosting (.wrStatus 0#2 0x2#32) (during .decode)
    let c := hosting (.measure 0#2 0#28) (during .decode)
    let g := hosting (.wrConfig 0#2 0x1#32) (during .trigLow)
    (resetting (during .decode)).ports.rst = true ∧ Runs a ∧ Finishes a ∧ Presents a (.wrStatus 0#2 0x2#32)
    ∧ (0x2#32).getLsbD 1 = true ∧ Runs c ∧ Finishes c ∧ Presents c (.measure 0#2 0#28) ∧ Runs g
    ∧ Presents g (.wrConfig 0#2 0x1#32) :=
  ⟨by decide, by decide, .inl rfl, by decide, by decide, by decide, .inl rfl, by decide, by decide, by decide⟩

/-- FRAME by the host, FRAME and BITCNT by the engine, the sums by a decode, and SHIFT by an acceptance. -/
theorem witness_DataRegistersHaveOneWriterEach :
    let h := hosting (.wrFrameLo 0#2 1#32) idle1
    let c := { during (.wait .bitF) with arm := true, bitcnt := 39#6, shift := 1#40 }
    let d := { during .decode with frame := sampleFrame }
    let a := hosting (.measure 0#2 0#28) { idle1 with bitcnt := 40#6 }
    (h.ports.rst = false ∧ ∃ t, step h = .next t ∧ t.frame ≠ h.frame)
    ∧ (c.ports.rst = false ∧ ∃ t, step c = .next t ∧ t.frame ≠ c.frame ∧ t.bitcnt ≠ c.bitcnt)
    ∧ (d.ports.rst = false ∧ ∃ t, step d = .next t ∧ t.rxsum ≠ d.rxsum)
    ∧ (a.ports.rst = false ∧ ∃ t, step a = .next t ∧ t.bitcnt ≠ a.bitcnt) :=
  ⟨⟨by decide, _, rfl, by decide⟩, ⟨by decide, _, rfl, by decide, by decide⟩, ⟨by decide, _, rfl, by decide⟩,
    by decide, _, rfl, by decide⟩

theorem witness_ModeAndPacingAreLatched :
    let s := hosting (.measure 0#2 0#28) idle1
    s.ports.rst = false ∧ ∃ t, step s = .next t ∧ t.modeB ≠ s.modeB :=
  ⟨by decide, _, rfl, by decide⟩

/-- Two running decodes, in one of which the host has just changed CONFIG and presents a command; the operation ends. -/
theorem witness_HostDoesNotDisturbARunningOperation :
    let s := during .decode
    let u := hosting (.measure 0#2 0#28) { during .decode with cfgIe := true, cfgPace := false, cmderr := true }
    s.st ≠ .idle ∧ HostSide s u ∧ Runs s ∧ Runs u ∧ Finishes s ∧ NoReset 1 s ∧ NoReset 1 u
    ∧ ∃ t, endOfOperation 1 s = some t :=
  ⟨by decide, rfl, by decide, by decide, .inl rfl, by decide, by decide, _, rfl⟩

theorem witness_IdleIsQuiescent : Runs idle1 ∧ idle1.st = .idle ∧ PresentsNothing idle1 := by decide

theorem witness_ParametersNeverChange : ∃ t, runFor 1 (resetting (during .trigLow)) = .next t := ⟨_, rfl⟩

/-- The reset state meets the invariant, so the invariant can be met. -/
theorem witness_Inv : Inv idle1 := by
  constructor <;> first | decide | exact fun _ h => nomatch h

theorem witness_ResetMeetsTheInvariant : legalParams oneMhz = true ∧ legalParams ⟨65535, 26, 16⟩ = true := by decide

theorem witness_EveryStepKeepsTheInvariant : Inv idle1 ∧ ∃ t, step idle1 = .next t := ⟨witness_Inv, _, rfl⟩

theorem witness_CounterWidthIsUnobservable :
    Inv idle1 ∧ legalParams { idle1.params with tw := 11 } = true ∧ idle1.tcnt ≤ 2 ^ 11 - 1 :=
  ⟨witness_Inv, by decide, by decide⟩

theorem witness_HiddenStateCarriesNothingOver : idle1.st = .idle ∧ idle1.result ≠ .invalidFrame := by decide

end Sys2Proof.Tests
end

section
/-! Runs taken apart, and the parameters along a run (spec/00_scope.md R7, spec/30_encoding.md R87). -/

namespace Sys2Proof.Machine

/-! ## Runs -/

/-- A run of `n + 1` cycles that answers next is one step and a run of `n`. -/
theorem runFor_succ_next {n : Nat} {s t : State} (run : runFor (n + 1) s = .next t) :
    ∃ u, step s = .next u ∧ runFor n u = .next t := by
  rw [runFor] at run
  cases hs : step s with
  | next u => rw [hs] at run; exact ⟨u, rfl, run⟩
  | fault f => exact nomatch f
  | refused r => rw [hs] at run; cases run

/-- What every step keeps, every run keeps. -/
theorem runFor_keeps {P : State → Prop} (keep : ∀ s t, step s = .next t → P s → P t) {n : Nat} {s t : State}
    (run : runFor n s = .next t) (hs : P s) : P t := by
  induction n generalizing s with
  | zero => cases run; exact hs
  | succ n ih =>
    obtain ⟨u, one, rest⟩ := runFor_succ_next run
    exact ih rest (keep s u one hs)

/-! ## No rule of the engine writes the parameters -/

@[simp] theorem trigLowStep_params (s h : State) : (trigLowStep s h).params = h.params := by
  rcases trigLowStep_cases s h with ⟨_, e⟩ | ⟨_, e⟩ <;> rw [e]

@[simp] theorem captureBit_params (s h : State) : (captureBit s h).params = h.params := by
  rcases captureBit_cases s h with ⟨_, e⟩ | ⟨_, e⟩ <;> simp [e]

@[simp] theorem waitComplete_params (w : EdgeWait) (s h : State) : (waitComplete w s h).params = h.params := by
  cases w with
  | preF1 => exact enterWait_params _ h
  | preR => exact enterWait_params _ h
  | preF2 => exact enterWait_params _ h
  | bitR => exact enterWait_params _ h
  | bitF => exact captureBit_params s h

@[simp] theorem edgeWaitStep_params (w : EdgeWait) (s h : State) : (edgeWaitStep w s h).params = h.params := by
  rcases edgeWaitStep_cases w s h with ⟨_, e⟩ | ⟨_, _, e⟩ | ⟨_, _, e⟩ <;> simp [e]

@[simp] theorem decodeStep_params (s h : State) : (decodeStep s h).params = h.params := by
  rcases decodeStep_cases s h with ⟨_, e⟩ | ⟨_, e⟩ <;> simp [e]

@[simp] theorem engineStep_params (s h : State) : (engineStep s h).params = h.params := by
  cases hs : s.st with
  | idle => rw [engineStep_idle h hs]
  | trigH0 => rw [engineStep_trigH0 h hs, trigH0Step_params]
  | trigOe => rw [engineStep_trigOe h hs, trigOeStep_params]
  | trigLow => rw [engineStep_trigLow h hs, trigLowStep_params]
  | trigH1 => rw [engineStep_trigH1 h hs, enterWait_params]
  | wait w => rw [engineStep_wait h hs, edgeWaitStep_params]
  | decode => rw [engineStep_decode h hs, decodeStep_params]

@[simp] theorem clockEdge_params (s h : State) : (clockEdge s h).params = h.params := by simp [clockEdge]

/-! ## No operation of the host writes the parameters -/

theorem exec_params {i : Instr} {s h : State} (effect : exec i s = .next h) : h.params = s.params := by
  obtain ⟨h', e, c⟩ := exec_cases i s
  obtain rfl : h = h' := by rw [effect] at e; cases e; rfl
  rcases c with rfl | ⟨_, rfl⟩ | rfl | ⟨_, _, rfl⟩ | ⟨_, rfl⟩ | ⟨_, rfl⟩ | ⟨_, rfl⟩ | ⟨_, _, rfl⟩ <;> simp

theorem hostEffect_params {s h : State} (e : HostEffect s h) : h.params = s.params := by
  cases e with
  | nothing _ => exact beginCycle_params s
  | operation _ effect => exact (exec_params effect).trans (beginCycle_params s)

/-! ## No cycle and no run changes them -/

theorem step_params {s t : State} (e : step s = .next t) : t.params = s.params := by
  rcases step_cases e with ⟨_, rfl⟩ | ⟨_, h, host, rfl⟩
  · exact resetCycle_params s
  · rw [clockEdge_params, hostEffect_params host]

/-- Settles O50: every step keeps the parameters, so every run does. -/
theorem parametersNeverChange : Obligations.ParametersNeverChange := fun _ s _ run =>
  runFor_keeps (P := fun u => u.params = s.params) (fun _ _ e same => (step_params e).trans same) run rfl

end Sys2Proof.Machine
end

section
/-! The host's half of a cycle as data: every operation is one of nine actions, and the action of a cycle is that of the
word on its ports (spec/42_register_access.md R160 to R169). -/

namespace Sys2Proof.Machine

/-! ## A request word is one instruction's -/

theorem encode_decodeCommand (lo : BitVec 2) (data : Word) : encode (decodeCommand lo data) = writeWord 0#4 lo data := by
  have word : ctrlWord lo (dataCmd data) (dataIgn data) = writeWord 0#4 lo data := by
    rw [ctrlWord, data_fields, writeWord]
  have named : ∀ c : BitVec 4, (dataCmd data).toNat = c.toNat → ctrlWord lo c (dataIgn data) = writeWord 0#4 lo data :=
    fun c e => by rw [← BitVec.eq_of_toNat_eq e, word]
  unfold decodeCommand
  split
  case h_1 e => exact named 0#4 e
  case h_2 e => exact named 1#4 e
  case h_3 e => exact named 2#4 e
  case h_4 e => exact named 3#4 e
  all_goals exact word

theorem encode_decodeWrite (reg : BitVec 4) (lo : BitVec 2) (data : Word) :
    encode (decodeWrite reg lo data) = writeWord reg lo data := by
  have named : ∀ c : BitVec 4, reg.toNat = c.toNat → writeWord c lo data = writeWord reg lo data :=
    fun c e => by rw [BitVec.eq_of_toNat_eq e]
  unfold decodeWrite
  split
  case h_1 e => rw [encode_decodeCommand, named 0#4 e]
  case h_2 e => exact named 1#4 e
  case h_3 e => exact named 2#4 e
  case h_4 e => exact named 3#4 e
  case h_5 e => exact named 4#4 e
  case h_6 e => exact named 5#4 e
  case h_7 e => exact named 6#4 e
  case h_8 e => exact named 7#4 e
  case h_9 e => exact named 8#4 e
  case h_10 e => exact named 9#4 e
  case h_11 e => exact named 10#4 e
  case h_12 e => exact named 11#4 e
  case h_13 e => exact named 12#4 e
  case h_14 e => exact named 13#4 e
  case h_15 e => exact named 14#4 e
  case h_16 =>
    simp only [imp_false] at *
    exact named 15#4 (by simp only [BitVec.toNat_ofNat]; omega)

/-- The decoder drops no bit of a word. -/
theorem encode_decode (w : Brw) : encode (Sys2Proof.decode w) = w := by
  have whole := brw_fields w
  unfold Sys2Proof.decode
  split
  · rename_i we
    rw [encode_decodeWrite, writeWord, off_fields, ← we, whole]
  · rename_i we
    rw [Bool.eq_false_iff.2 we] at whole
    exact whole

theorem wellFormed_decodeCommand (lo : BitVec 2) (data : Word) : (decodeCommand lo data).wellFormed = true := by
  unfold decodeCommand
  split
  case h_9 =>
    simp only [imp_false, Instr.wellFormed, decide_eq_true_eq] at *
    omega
  all_goals simp only [Instr.wellFormed, Bool.and_eq_true, decide_eq_true_eq]
  all_goals omega

theorem wellFormed_decodeWrite (reg : BitVec 4) (lo : BitVec 2) (data : Word) :
    (decodeWrite reg lo data).wellFormed = true := by
  unfold decodeWrite
  split
  case h_1 => exact wellFormed_decodeCommand lo data
  all_goals rfl

/-- The decoder answers only instructions the encoding has. -/
theorem wellFormed_decode (w : Brw) : (Sys2Proof.decode w).wellFormed = true := by
  unfold Sys2Proof.decode
  split
  · exact wellFormed_decodeWrite _ _ _
  · rfl

theorem decode_ctrlWord (lo : BitVec 2) (cmd : BitVec 4) (ign : BitVec 28) :
    Sys2Proof.decode (ctrlWord lo cmd ign) = decodeCommand lo (ign ++ cmd) :=
  decode_writeWord 0#4 lo (ign ++ cmd)

theorem lowReserved_cases : ∀ cmd : BitVec 4, (4 ≤ cmd.toNat && cmd.toNat ≤ 7) = true →
    cmd = 4#4 ∨ cmd = 5#4 ∨ cmd = 6#4 ∨ cmd = 7#4 := by decide

theorem highReserved_cases : ∀ cmd : BitVec 4, decide (8 ≤ cmd.toNat) = true →
    cmd = 8#4 ∨ cmd = 9#4 ∨ cmd = 10#4 ∨ cmd = 11#4 ∨ cmd = 12#4 ∨ cmd = 13#4 ∨ cmd = 14#4 ∨ cmd = 15#4 := by decide

/-- The word of a well-formed instruction is decoded to it. -/
theorem decode_encode {i : Instr} (wf : i.wellFormed = true) : Sys2Proof.decode (encode i) = i := by
  cases i with
  | rd off data => simp [encode, Sys2Proof.decode]
  | nop lo ign => simp [encode, decode_ctrlWord, decodeCommand]
  | measure lo ign => simp [encode, decode_ctrlWord, decodeCommand]
  | measureLegacy lo ign => simp [encode, decode_ctrlWord, decodeCommand]
  | decode lo ign => simp [encode, decode_ctrlWord, decodeCommand]
  | ctrlRsvd47 lo cmd ign =>
    rw [encode, decode_ctrlWord, decodeCommand, dataCmd_append, dataIgn_append]
    obtain rfl | rfl | rfl | rfl := lowReserved_cases cmd wf <;> rfl
  | ctrlRsvd8F lo cmd ign =>
    rw [encode, decode_ctrlWord, decodeCommand, dataCmd_append, dataIgn_append]
    obtain rfl | rfl | rfl | rfl | rfl | rfl | rfl | rfl := highReserved_cases cmd wf <;> rfl
  | _ => exact decode_writeWord _ _ _

/-! ## The nine actions of the host -/

/-- What a host operation does to the state at the start of its cycle. -/
inductive HostAction where
  /-- Nothing: no operation, NOP (R162), a write that is ignored (R165, R168). -/
  | keep
  /-- A read (R160). -/
  | read (off : BitVec 6)
  /-- A reserved command (R161). -/
  | reserved
  /-- MEASURE, bounded, or MEASURE_LEGACY, unbounded (R100, R101). -/
  | acquire (bounded : Bool)
  /-- DECODE (R140). -/
  | decode
  /-- A STATUS write (R163). -/
  | acknowledge (data : Word)
  /-- A CONFIG write (R164). -/
  | configure (data : Word)
  /-- A write of FRAME[39:32] (R166). -/
  | writeFrameHi (data : Word)
  /-- A write of FRAME[31:0] (R167). -/
  | writeFrameLo (data : Word)

/-- The action of an instruction, tied to `exec` by `exec_eq_apply`. -/
def instrAction : Instr → HostAction
  | .rd off _ => .read off
  | .nop _ _ => .keep
  | .measure _ _ => .acquire true
  | .measureLegacy _ _ => .acquire false
  | .decode _ _ => .decode
  | .ctrlRsvd47 _ _ _ => .reserved
  | .ctrlRsvd8F _ _ _ => .reserved
  | .wrStatus _ data => .acknowledge data
  | .wrConfig _ data => .configure data
  | .wrFrameHi _ data => .writeFrameHi data
  | .wrFrameLo _ data => .writeFrameLo data
  | .wrHumidity _ _ => .keep
  | .wrTempRaw _ _ => .keep
  | .wrTemperature _ _ => .keep
  | .wrChecksum _ _ => .keep
  | .wrProgress _ _ => .keep
  | .wrParam _ _ => .keep
  | .wrUnmappedB _ _ => .keep
  | .wrUnmappedC _ _ => .keep
  | .wrUnmappedD _ _ => .keep
  | .wrUnmappedE _ _ => .keep
  | .wrUnmappedF _ _ => .keep

/-- The state an action leaves, by the operations of the model. -/
def HostAction.apply : HostAction → State → State
  | .keep, s => s
  | .read off, s => { s with busRdata := readValue s (regAt off) }
  | .reserved, s => ignoreCommand s
  | .acquire bounded, s => command (acceptAcquisition bounded) s
  | .decode, s => command acceptDecode s
  | .acknowledge data, s => Machine.acknowledge data s
  | .configure data, s => { s with cfgIe := dataIe data, cfgPace := dataPace data }
  | .writeFrameHi data, s => hostWriteFrame (frameWithHi s.frame data) s
  | .writeFrameLo data, s => hostWriteFrame (frameWithLo s.frame data) s


theorem exec_eq_apply (i : Instr) (s : State) : exec i s = .next ((instrAction i).apply s) := by cases i <;> rfl

/-- The action of this cycle: that of the instruction on the host's ports. -/
def hostAction (s : State) : HostAction :=
  match portsRequest s.ports with
  | none => .keep
  | some w => instrAction (Sys2Proof.decode w)

/-- The state the host's half of the cycle leaves. -/
def hostHalf (s : State) : State := (hostAction s).apply (beginCycle s)

theorem hostEffect_iff {s h : State} : HostEffect s h ↔ h = hostHalf s := by
  constructor
  · intro e
    cases e with
    | nothing quiet => simp [hostHalf, hostAction, show portsRequest s.ports = none from quiet, HostAction.apply]
    | operation request effect =>
      rw [exec_eq_apply] at effect
      cases effect
      simp [hostHalf, hostAction, request]
  · rintro rfl
    cases request : portsRequest s.ports with
    | none => simpa [hostHalf, hostAction, request, HostAction.apply] using HostEffect.nothing request
    | some w => exact .operation request (by simp [hostHalf, hostAction, request, exec_eq_apply])

/-- A cycle that runs is the host's half and the clock edge over it. -/
theorem step_eq_clockEdge {s : State} (run : Runs s) : step s = .next (clockEdge s (hostHalf s)) := by
  obtain ⟨h, effect, e⟩ := step_runs run
  rw [e, hostEffect_iff.1 effect]

/-- Every way a step answers next, the host's half named. -/
theorem step_next_cases {s t : State} (e : step s = .next t) :
    (s.ports.rst = true ∧ t = resetCycle s) ∨ (Runs s ∧ t = clockEdge s (hostHalf s)) := by
  rcases step_cases e with reset | ⟨run, h, effect, e'⟩
  · exact .inl reset
  · exact .inr ⟨run, by rw [e', hostEffect_iff.1 effect]⟩

/-! ## Which instruction the action comes from -/

theorem hostAction_of_presents {s : State} {i : Instr} (wf : i.wellFormed = true) (p : Presents s i) :
    hostAction s = instrAction i := by
  simp [hostAction, show portsRequest s.ports = _ from p, decode_encode wf]

/-- The host presents in this cycle an instruction of the action. -/
def HostAction.Asked (s : State) : HostAction → Prop
  | .keep => True
  | .read off => ∃ data, Presents s (.rd off data)
  | .reserved => ∃ lo cmd ign, (4 ≤ cmd.toNat ∧ cmd.toNat ≤ 7 ∧ Presents s (.ctrlRsvd47 lo cmd ign))
      ∨ (8 ≤ cmd.toNat ∧ Presents s (.ctrlRsvd8F lo cmd ign))
  | .acquire true => ∃ lo ign, Presents s (.measure lo ign)
  | .acquire false => ∃ lo ign, Presents s (.measureLegacy lo ign)
  | .decode => ∃ lo ign, Presents s (.decode lo ign)
  | .acknowledge data => ∃ lo, Presents s (.wrStatus lo data)
  | .configure data => ∃ lo, Presents s (.wrConfig lo data)
  | .writeFrameHi data => ∃ lo, Presents s (.wrFrameHi lo data)
  | .writeFrameLo data => ∃ lo, Presents s (.wrFrameLo lo data)

/-- The action of a well-formed instruction on the ports is asked for. -/
theorem asked_of_presents {s : State} {i : Instr} (wf : i.wellFormed = true) (p : Presents s i) :
    (instrAction i).Asked s := by
  cases i with
  | rd _ data => exact ⟨data, p⟩
  | measure lo ign => exact ⟨lo, ign, p⟩
  | measureLegacy lo ign => exact ⟨lo, ign, p⟩
  | decode lo ign => exact ⟨lo, ign, p⟩
  | ctrlRsvd47 lo cmd ign =>
    simp only [Instr.wellFormed, Bool.and_eq_true, decide_eq_true_eq] at wf
    exact ⟨lo, cmd, ign, .inl ⟨wf.1, wf.2, p⟩⟩
  | ctrlRsvd8F lo cmd ign => exact ⟨lo, cmd, ign, .inr ⟨of_decide_eq_true wf, p⟩⟩
  | wrStatus lo _ => exact ⟨lo, p⟩
  | wrConfig lo _ => exact ⟨lo, p⟩
  | wrFrameHi lo _ => exact ⟨lo, p⟩
  | wrFrameLo lo _ => exact ⟨lo, p⟩
  | _ => trivial

/-- The action of the cycle is asked for on the ports. -/
theorem hostAction_asked (s : State) : (hostAction s).Asked s := by
  unfold hostAction
  cases request : portsRequest s.ports with
  | none => trivial
  | some w => exact asked_of_presents (wellFormed_decode w) (by rw [Presents, request, encode_decode])

theorem asked_of_hostAction {s : State} {a : HostAction} (e : hostAction s = a) : a.Asked s := e ▸ hostAction_asked s

/-! ## Commands -/

/-- The action is a command that IDLE accepts. -/
def HostAction.isCommand : HostAction → Bool
  | .acquire _ => true
  | .decode => true
  | _ => false

/-- MEASURE, MEASURE_LEGACY or DECODE is presented exactly when the action is a command. -/
theorem presents_command_iff (s : State) :
    (∃ lo ign, Presents s (.measure lo ign) ∨ Presents s (.measureLegacy lo ign) ∨ Presents s (.decode lo ign))
      ↔ (hostAction s).isCommand = true := by
  constructor
  · rintro ⟨lo, ign, p | p | p⟩ <;> rw [hostAction_of_presents rfl p] <;> rfl
  · intro command
    cases e : hostAction s with
    | acquire bounded =>
      cases bounded with
      | true => exact (asked_of_hostAction e).imp fun _ ⟨ign, p⟩ => ⟨ign, .inl p⟩
      | false => exact (asked_of_hostAction e).imp fun _ ⟨ign, p⟩ => ⟨ign, .inr (.inl p)⟩
    | decode => exact (asked_of_hostAction e).imp fun _ ⟨ign, p⟩ => ⟨ign, .inr (.inr p)⟩
    | _ => simp [e, HostAction.isCommand] at command

theorem presents_reserved_iff (s : State) :
    (∃ lo cmd ign, (4 ≤ cmd.toNat ∧ cmd.toNat ≤ 7 ∧ Presents s (.ctrlRsvd47 lo cmd ign))
      ∨ (8 ≤ cmd.toNat ∧ Presents s (.ctrlRsvd8F lo cmd ign))) ↔ hostAction s = .reserved := by
  constructor
  · rintro ⟨lo, cmd, ign, ⟨low, high, p⟩ | ⟨low, p⟩⟩
    · exact hostAction_of_presents (by simp [Instr.wellFormed, low, high]) p
    · exact hostAction_of_presents (by simp [Instr.wellFormed, low]) p
  · exact fun e => asked_of_hostAction e

theorem presents_wrStatus_iff (s : State) (data : Word) :
    (∃ lo, Presents s (.wrStatus lo data)) ↔ hostAction s = .acknowledge data :=
  ⟨fun ⟨_, p⟩ => hostAction_of_presents rfl p, fun e => asked_of_hostAction e⟩

theorem accepts_iff (s : State) : Accepts s ↔ s.st = .idle ∧ (hostAction s).isCommand = true :=
  and_congr_right fun _ => presents_command_iff s

theorem ignoresCommand_iff (s : State) :
    IgnoresCommand s ↔ (s.st ≠ .idle ∧ (hostAction s).isCommand = true) ∨ hostAction s = .reserved :=
  or_congr (and_congr_right fun _ => presents_command_iff s) (presents_reserved_iff s)

/-! ## What an action leaves -/

/-- A command in IDLE starts an operation; every other action in every state leaves the engine's own fields and the
result as they are. -/
theorem apply_cases (a : HostAction) (s : State) :
    (s.st = .idle ∧ ∃ bounded, a = .acquire bounded ∧ a.apply s = acceptAcquisition bounded s)
      ∨ (s.st = .idle ∧ a = .decode ∧ a.apply s = acceptDecode s)
      ∨ (¬ (s.st = .idle ∧ a.isCommand = true) ∧ ∃ frame done cmderr ie pace rdata,
          a.apply s = { s with
            frame := frame, done := done, cmderr := cmderr, cfgIe := ie, cfgPace := pace, busRdata := rdata }
          ∧ (done = true → s.done = true)
          ∧ (frame ≠ s.frame → s.st = .idle ∧ ∃ data, a = .writeFrameHi data ∨ a = .writeFrameLo data)) := by
  have quiet : a.isCommand = false → ¬ (s.st = .idle ∧ a.isCommand = true) := fun e ⟨_, c⟩ => by simp [e] at c
  cases a with
  | keep => exact .inr (.inr ⟨quiet rfl, _, _, _, _, _, _, rfl, id, absurd rfl⟩)
  | read off => exact .inr (.inr ⟨quiet rfl, _, _, _, _, _, _, rfl, id, absurd rfl⟩)
  | reserved => exact .inr (.inr ⟨quiet rfl, _, _, _, _, _, _, rfl, id, absurd rfl⟩)
  | acquire bounded =>
    rcases command_cases (acceptAcquisition bounded) s with ⟨idle, e⟩ | ⟨running, e⟩
    · exact .inl ⟨idle, bounded, rfl, e⟩
    · exact .inr (.inr ⟨fun both => running both.1, _, _, _, _, _, _, e, id, absurd rfl⟩)
  | decode =>
    rcases command_cases acceptDecode s with ⟨idle, e⟩ | ⟨running, e⟩
    · exact .inr (.inl ⟨idle, rfl, e⟩)
    · exact .inr (.inr ⟨fun both => running both.1, _, _, _, _, _, _, e, id, absurd rfl⟩)
  | acknowledge data =>
    exact .inr (.inr ⟨quiet rfl, _, _, _, _, _, _, rfl, fun e => (Bool.and_eq_true_iff.1 e).1, absurd rfl⟩)
  | configure data => exact .inr (.inr ⟨quiet rfl, _, _, _, _, _, _, rfl, id, absurd rfl⟩)
  | writeFrameHi data =>
    rcases hostWriteFrame_cases (frameWithHi s.frame data) s with ⟨idle, e⟩ | ⟨_, e⟩
    · exact .inr (.inr ⟨quiet rfl, _, _, _, _, _, _, e, id, fun _ => ⟨idle, data, .inl rfl⟩⟩)
    · exact .inr (.inr ⟨quiet rfl, _, _, _, _, _, _, e, id, absurd rfl⟩)
  | writeFrameLo data =>
    rcases hostWriteFrame_cases (frameWithLo s.frame data) s with ⟨idle, e⟩ | ⟨_, e⟩
    · exact .inr (.inr ⟨quiet rfl, _, _, _, _, _, _, e, id, fun _ => ⟨idle, data, .inr rfl⟩⟩)
    · exact .inr (.inr ⟨quiet rfl, _, _, _, _, _, _, e, id, absurd rfl⟩)

@[simp] theorem hostWriteFrame_done (f : Frame) (s : State) : (hostWriteFrame f s).done = s.done := by
  rcases hostWriteFrame_cases f s with ⟨_, e⟩ | ⟨_, e⟩ <;> rw [e]

@[simp] theorem hostWriteFrame_cmderr (f : Frame) (s : State) : (hostWriteFrame f s).cmderr = s.cmderr := by
  rcases hostWriteFrame_cases f s with ⟨_, e⟩ | ⟨_, e⟩ <;> rw [e]

/-- DONE after an action: cleared by an accepted command and by a STATUS write with DATA[1] = 1 (R38). -/
theorem apply_done (a : HostAction) (s : State) : (a.apply s).done = true ↔ s.done = true
    ∧ ¬ (s.st = .idle ∧ a.isCommand = true) ∧ ¬ ∃ data, a = .acknowledge data ∧ clrDone data = true := by
  cases a with
  | acquire bounded =>
    rcases command_cases (acceptAcquisition bounded) s with ⟨idle, e⟩ | ⟨running, e⟩ <;>
      simp [HostAction.apply, HostAction.isCommand, *]
  | decode =>
    rcases command_cases acceptDecode s with ⟨idle, e⟩ | ⟨running, e⟩ <;>
      simp [HostAction.apply, HostAction.isCommand, *]
  | _ => simp [HostAction.apply, HostAction.isCommand]

/-- CMDERR after an action: set by an ignored command, cleared by a STATUS write with DATA[5] = 1 (R40). -/
theorem apply_cmderr (a : HostAction) (s : State) : (a.apply s).cmderr = true ↔
    ((s.st ≠ .idle ∧ a.isCommand = true) ∨ a = .reserved)
      ∨ (s.cmderr = true ∧ ¬ ∃ data, a = .acknowledge data ∧ clrCmderr data = true) := by
  cases a with
  | acquire bounded =>
    rcases command_cases (acceptAcquisition bounded) s with ⟨idle, e⟩ | ⟨running, e⟩ <;>
      simp [HostAction.apply, HostAction.isCommand, *]
  | decode =>
    rcases command_cases acceptDecode s with ⟨idle, e⟩ | ⟨running, e⟩ <;>
      simp [HostAction.apply, HostAction.isCommand, *]
  | _ => simp [HostAction.apply, HostAction.isCommand]

end Sys2Proof.Machine
end

section
/-! The invariant of the block (spec/10_state.md R30, R34, R42, R47; spec/60_exceptions.md R202), kept by the host's half
of a cycle, by each rule of the engine and by the reset. -/

namespace Sys2Proof.Machine

/-! ## The engine over a running operation -/

/-- The engine reads no field of the host's side, so it sees the state the host's half leaves. -/
theorem engineStep_of_hostSide {s h : State} (side : HostSide s h) (k : State) : engineStep s k = engineStep h k := by
  rw [side]
  rfl

/-- The engine's half of a cycle: IDLE leaves the host's, and every other rule runs on it. -/
theorem engineStep_hostHalf (s : State) : (s.st = .idle ∧ engineStep s (hostHalf s) = hostHalf s)
    ∨ (s.st ≠ .idle ∧ HostSide s (hostHalf s) ∧ engineStep s (hostHalf s) = engineStep (hostHalf s) (hostHalf s)) := by
  by_cases idle : s.st = .idle
  · exact .inl ⟨idle, engineStep_idle _ idle⟩
  · have side := hostSide_of_hostEffect (hostEffect_iff.2 rfl) idle
    exact .inr ⟨idle, side, engineStep_of_hostSide side _⟩

/-! ## Updates outside the invariant -/

theorem inv_clockEdge_of_engineStep {s h : State} (inv : Inv (engineStep s h)) : Inv (clockEdge s h) := { inv with }

theorem inv_beginCycle {s : State} (inv : Inv s) : Inv (beginCycle s) := { inv with }

theorem inv_recordSums {h : State} (f : Frame) (inv : Inv h) : Inv (recordSums f h) := { inv with }

theorem inv_recordMeasurement {h : State} (f : Frame) (inv : Inv h) : Inv (recordMeasurement f h) := { inv with }

/-! ## The reset -/

theorem inv_resetCycle {s : State} (inv : Inv s) : Inv (resetCycle s) where
  params_legal := inv.params_legal
  tcnt_fits := Nat.zero_le _
  pcnt_fits := Nat.zero_le _
  bitcnt_le := by simp
  shift_fits := by simp
  result_legal := by simp
  busy_clear := by simp
  done_result := by simp
  timeout_state := by simp
  timeout_bounded := by simp
  trig_count := by simp
  no_bits_yet := by simp [beforeBits]
  wait_bits := by simp
  wait_bound := by simp

/-! ## The host's half -/

theorem inv_acceptAcquisition {s : State} (bounded : Bool) (inv : Inv s) : Inv (acceptAcquisition bounded s) :=
  { inv with
    tcnt_fits := Nat.zero_le _
    bitcnt_le := by simp
    shift_fits := by simp
    result_legal := by simp
    busy_clear := by simp
    done_result := by simp
    timeout_state := by simp
    timeout_bounded := by simp
    trig_count := by simp
    no_bits_yet := by simp
    wait_bits := by simp
    wait_bound := by simp }

theorem inv_acceptDecode {s : State} (inv : Inv s) : Inv (acceptDecode s) :=
  { inv with
    result_legal := by simp
    busy_clear := by simp
    done_result := by simp
    timeout_state := by simp
    timeout_bounded := by simp
    trig_count := by simp
    no_bits_yet := by simp [beforeBits]
    wait_bits := by simp
    wait_bound := by simp }

theorem inv_apply {s : State} (a : HostAction) (inv : Inv s) : Inv (a.apply s) := by
  rcases apply_cases a s with ⟨_, bounded, _, e⟩ | ⟨_, _, e⟩ | ⟨_, frame, done, cmderr, ie, pace, rdata, e, lowered, _⟩ <;>
    rw [e]
  · exact inv_acceptAcquisition bounded inv
  · exact inv_acceptDecode inv
  · exact { inv with
      busy_clear := fun running =>
        have ⟨clear, rest⟩ := inv.busy_clear running
        ⟨Bool.eq_false_iff.2 fun set => by simp [lowered set] at clear, rest⟩
      done_result := fun set => inv.done_result (lowered set) }

theorem inv_hostHalf {s : State} (inv : Inv s) : Inv (hostHalf s) := inv_apply _ (inv_beginCycle inv)

/-! ## The engine's rules -/

theorem inv_enterWait {h : State} {w : EdgeWait} (inv : Inv h) (running : h.st ≠ .idle) (few : h.bitcnt.toNat < 40)
    (early : beforeBits (.wait w) = true → h.bitcnt = 0#6) : Inv (enterWait w h) :=
  { inv with
    tcnt_fits := Nat.zero_le _
    pcnt_fits := Nat.zero_le _
    busy_clear := fun _ => inv.busy_clear running
    trig_count := by simp
    no_bits_yet := early
    wait_bits := fun _ _ => few
    wait_bound := by simp }

/-- An operation that ends with a result that is neither NONE nor INVALID_FRAME, TO_STATE named exactly on TIMEOUT. -/
theorem inv_finish {h : State} {code : ResultCode} {ts : Option EdgeWait} (inv : Inv h) (named : code ≠ .none)
    (legal : code ≠ .invalidFrame) (waited : code = .timeout ↔ ts.isSome = true)
    (bounded : code = .timeout → h.modeB = true ∧ h.bitcnt.toNat < 40) : Inv (finish code { h with toState := ts }) :=
  { inv with
    result_legal := legal
    busy_clear := by simp
    done_result := fun _ => named
    timeout_state := waited
    timeout_bounded := bounded
    trig_count := by simp
    no_bits_yet := by simp [beforeBits]
    wait_bits := by simp
    wait_bound := by simp }

theorem inv_trigH0Step {h : State} (inv : Inv h) (hs : h.st = .trigH0) : Inv (trigH0Step h) :=
  { inv with
    busy_clear := fun _ => inv.busy_clear (by simp [hs])
    trig_count := by simp
    no_bits_yet := fun _ => inv.no_bits_yet (by simp [hs, beforeBits])
    wait_bits := by simp
    wait_bound := by simp }

theorem inv_trigOeStep {h : State} (inv : Inv h) (hs : h.st = .trigOe) : Inv (trigOeStep h) :=
  { inv with
    tcnt_fits := Nat.zero_le _
    busy_clear := fun _ => inv.busy_clear (by simp [hs])
    trig_count := by simp
    no_bits_yet := fun _ => inv.no_bits_yet (by simp [hs, beforeBits])
    wait_bits := by simp
    wait_bound := by simp }

theorem inv_trigLowStep {h : State} (inv : Inv h) (hs : h.st = .trigLow) : Inv (trigLowStep h h) := by
  have few := inv.trig_count hs
  rcases trigLowStep_cases h h with ⟨_, e⟩ | ⟨more, e⟩ <;> rw [e]
  · exact { inv with
      busy_clear := fun _ => inv.busy_clear (by simp [hs])
      trig_count := by simp
      no_bits_yet := fun _ => inv.no_bits_yet (by simp [hs, beforeBits])
      wait_bits := by simp
      wait_bound := by simp }
  · have next : tcntNext h.params h.tcnt ≤ h.tcnt + 1 := Nat.min_le_left _ _
    exact { inv with
      tcnt_fits := tcntNext_le_max _ _
      trig_count := fun _ => by simp only; omega
      wait_bound := by simp [hs] }

theorem inv_waitContinue {h : State} {w : EdgeWait} (inv : Inv h) (hs : h.st = .wait w) (waits : timesOut h = false) :
    Inv (waitContinue w h h) :=
  { inv with
    tcnt_fits := tcntNext_le_max _ _
    pcnt_fits := by
      have := inv.pcnt_fits
      simp only [waitContinue_pcnt, waitContinue_params]
      split
      · split <;> omega
      · exact this
    trig_count := by simp [hs]
    wait_bound := fun _ _ bounded => by
      have within : h.tcnt ≤ timeoutCycles h.params := by
        simpa [timesOut, show h.modeB = true from bounded] using waits
      have next : tcntNext h.params h.tcnt ≤ h.tcnt + 1 := Nat.min_le_left _ _
      simp only [waitContinue_tcnt, waitContinue_params]
      omega }

theorem inv_waitTimeout {h : State} {w : EdgeWait} (inv : Inv h) (hs : h.st = .wait w) (expired : timesOut h = true) :
    Inv (waitTimeout w h) :=
  inv_finish inv (by simp) (by simp) (by simp) fun _ => ⟨((timesOut_iff h).1 expired).1, inv.wait_bits w hs⟩

/-- A bit shifted into a register of n bits leaves n + 1. -/
theorem shiftedIn_fits {f : Frame} {n : Nat} (b : Bool) (fits : f.toNat < 2 ^ n) : (shiftedIn f b).toNat < 2 ^ (n + 1) := by
  have one := b.toNat_le
  rw [shiftedIn_toNat, Nat.pow_succ]
  exact Nat.lt_of_le_of_lt (Nat.mod_le _ _) (by omega)

/-- Below 40, BITCNT counts without wrapping. -/
theorem bitcnt_succ_toNat {n : BitVec 6} (few : n.toNat < 40) : (n + 1#6).toNat = n.toNat + 1 := by
  simp only [BitVec.toNat_add, BitVec.toNat_ofNat]
  omega

theorem inv_captureBit {h : State} (inv : Inv h) (hs : h.st = .wait .bitF) : Inv (captureBit h h) := by
  have few := inv.wait_bits _ hs
  have count := bitcnt_succ_toNat few
  have fits : (shiftedIn h.shift (classifiedBit h)).toNat < 2 ^ (h.bitcnt + 1#6).toNat :=
    count ▸ shiftedIn_fits _ inv.shift_fits
  have clear := inv.busy_clear (by simp [hs])
  rcases captureBit_cases h h with ⟨last, e⟩ | ⟨more, e⟩ <;> rw [e]
  · exact { inv with
      bitcnt_le := by simp only; omega
      shift_fits := fits
      busy_clear := fun _ => clear
      timeout_bounded := by simp [clear]
      trig_count := by simp
      no_bits_yet := by simp [beforeBits]
      wait_bits := by simp
      wait_bound := by simp }
  · have captured : Inv { h with shift := shiftedIn h.shift (classifiedBit h), bitcnt := h.bitcnt + 1#6 } :=
      { inv with
        bitcnt_le := by simp only; omega
        shift_fits := fits
        timeout_bounded := by simp [clear]
        no_bits_yet := by simp [hs, beforeBits]
        wait_bits := fun _ _ => by simp only; omega }
    exact inv_enterWait captured (by simp [hs]) (by simp only; omega) (by simp [beforeBits])

theorem inv_waitComplete {h : State} {w : EdgeWait} (inv : Inv h) (hs : h.st = .wait w) : Inv (waitComplete w h h) := by
  have running : h.st ≠ .idle := by simp [hs]
  have few := inv.wait_bits w hs
  cases w with
  | preF1 => exact inv_enterWait inv running few fun _ => inv.no_bits_yet (by simp [hs, beforeBits])
  | preR => exact inv_enterWait inv running few fun _ => inv.no_bits_yet (by simp [hs, beforeBits])
  | preF2 => exact inv_enterWait inv running few (by simp [beforeBits])
  | bitR => exact inv_enterWait inv running few (by simp [beforeBits])
  | bitF => exact inv_captureBit inv hs

theorem inv_edgeWaitStep {h : State} {w : EdgeWait} (inv : Inv h) (hs : h.st = .wait w) : Inv (edgeWaitStep w h h) := by
  rcases edgeWaitStep_cases w h h with ⟨_, e⟩ | ⟨_, expired, e⟩ | ⟨_, waits, e⟩ <;> rw [e]
  · exact inv_waitComplete inv hs
  · exact inv_waitTimeout inv hs expired
  · exact inv_waitContinue inv hs waits

theorem inv_decodeStep {h : State} (inv : Inv h) (hs : h.st = .decode) : Inv (decodeStep h h) := by
  have unnamed : h.toState = none := (inv.busy_clear (by simp [hs])).2.2
  rcases decodeStep_cases h h with ⟨_, e⟩ | ⟨_, e⟩ <;> rw [e]
  · have recorded := inv_recordMeasurement h.frame (inv_recordSums h.frame inv)
    exact inv_finish recorded (by simp) (by simp) (by simp [unnamed]) (by simp)
  · exact inv_finish (inv_recordSums h.frame inv) (by simp) (by simp) (by simp [unnamed]) (by simp)

theorem inv_engineStep {h : State} (inv : Inv h) : Inv (engineStep h h) := by
  cases hs : h.st with
  | idle => rwa [engineStep_idle h hs]
  | trigH0 => rw [engineStep_trigH0 h hs]; exact inv_trigH0Step inv hs
  | trigOe => rw [engineStep_trigOe h hs]; exact inv_trigOeStep inv hs
  | trigLow => rw [engineStep_trigLow h hs]; exact inv_trigLowStep inv hs
  | trigH1 =>
    have fresh : h.bitcnt = 0#6 := inv.no_bits_yet (by simp [hs, beforeBits])
    rw [engineStep_trigH1 h hs]
    exact inv_enterWait inv (by simp [hs]) (by simp [fresh]) fun _ => fresh
  | wait w => rw [engineStep_wait h hs]; exact inv_edgeWaitStep inv hs
  | decode => rw [engineStep_decode h hs]; exact inv_decodeStep inv hs

/-! ## Every step -/

theorem inv_clockEdge {s : State} (inv : Inv s) : Inv (clockEdge s (hostHalf s)) := by
  refine inv_clockEdge_of_engineStep ?_
  rcases engineStep_hostHalf s with ⟨_, e⟩ | ⟨_, _, e⟩ <;> rw [e]
  · exact inv_hostHalf inv
  · exact inv_engineStep (inv_hostHalf inv)

/-- Settles O52: the reset, the host's half and each rule of the engine keep the invariant. -/
theorem everyStepKeepsTheInvariant : Obligations.EveryStepKeepsTheInvariant := by
  intro s t inv e
  rcases step_next_cases e with ⟨_, rfl⟩ | ⟨_, rfl⟩
  · exact inv_resetCycle inv
  · exact inv_clockEdge inv

end Sys2Proof.Machine
end

section
/-! The flags, the results and the data registers (spec/10_state.md R27, R28, R33, R34, R37 to R40): which half of a cycle
writes them, and when. -/

namespace Sys2Proof.Machine

/-! ## What the engine can do in a cycle -/

theorem not_finishes_of_st {s : State} {e : EngineState} (hs : s.st = e) (decodes : e ≠ .decode) (waits : ∀ w, e ≠ .wait w) :
    ¬ Finishes s := by
  rintro (h | ⟨w, h, _⟩)
  · exact decodes (hs.symm.trans h)
  · exact waits w (hs.symm.trans h)

/-- A captured bit writes SHIFT and counts it; the fortieth also writes FRAME (R117). -/
theorem captureBit_fields (s h : State) : ∃ st arm tcnt pcnt shift frame,
    captureBit s h = { h with
      st := st, arm := arm, tcnt := tcnt, pcnt := pcnt, shift := shift, frame := frame, bitcnt := s.bitcnt + 1#6 }
    ∧ (frame ≠ h.frame → s.bitcnt.toNat = 39 ∧ st = .decode ∧ frame = shift) := by
  rcases captureBit_cases s h with ⟨last, e⟩ | ⟨_, e⟩
  · exact ⟨_, _, _, _, _, _, e, fun _ => ⟨by omega, rfl, rfl⟩⟩
  · exact ⟨_, _, _, _, _, _, e, absurd rfl⟩

/-- The decode step writes the measurement and the sums, and finishes with OK or CHECKSUM (R144 to R147). -/
theorem decodeStep_fields (s h : State) : ∃ code hum tsign tmag rxsum calcsum,
    decodeStep s h = finish code { h with
      hum := hum, tsign := tsign, tmag := tmag, rxsum := rxsum, calcsum := calcsum }
    ∧ (code = .ok ∨ code = .checksum) := by
  rcases decodeStep_cases s h with ⟨_, e⟩ | ⟨_, e⟩
  · exact ⟨_, _, _, _, _, _, e, .inl rfl⟩
  · exact ⟨_, _, _, _, _, _, e, .inr rfl⟩

/-- A cycle of the engine goes on without touching results and data, captures a bit, times out, or decodes; only the
last two finish the operation. -/
theorem engineStep_cases (s h : State) :
    (¬ Finishes s ∧ ∃ st arm tcnt pcnt, engineStep s h = { h with st := st, arm := arm, tcnt := tcnt, pcnt := pcnt })
      ∨ (¬ Finishes s ∧ s.st = .wait .bitF ∧ engineStep s h = captureBit s h)
      ∨ (Finishes s ∧ ∃ w, engineStep s h = waitTimeout w h)
      ∨ (Finishes s ∧ s.st = .decode ∧ engineStep s h = decodeStep s h) := by
  cases hs : s.st with
  | idle => exact .inl ⟨not_finishes_of_st hs nofun nofun, _, _, _, _, engineStep_idle h hs⟩
  | trigH0 => exact .inl ⟨not_finishes_of_st hs nofun nofun, _, _, _, _, engineStep_trigH0 h hs⟩
  | trigOe => exact .inl ⟨not_finishes_of_st hs nofun nofun, _, _, _, _, engineStep_trigOe h hs⟩
  | trigLow =>
    rw [engineStep_trigLow h hs]
    rcases trigLowStep_cases s h with ⟨_, e⟩ | ⟨_, e⟩ <;>
      exact .inl ⟨not_finishes_of_st hs nofun nofun, _, _, _, _, e⟩
  | trigH1 => exact .inl ⟨not_finishes_of_st hs nofun nofun, _, _, _, _, engineStep_trigH1 h hs⟩
  | decode => exact .inr (.inr (.inr ⟨.inl hs, rfl, engineStep_decode h hs⟩))
  | wait w =>
    rw [engineStep_wait h hs]
    rcases edgeWaitStep_cases w s h with ⟨completed, e⟩ | ⟨waiting, expired, e⟩ | ⟨_, waits, e⟩ <;> rw [e]
    · have goesOn : ¬ Finishes s := by simp [Finishes, hs, completed]
      cases w with
      | bitF => exact .inr (.inl ⟨goesOn, rfl, rfl⟩)
      | _ => exact .inl ⟨goesOn, _, _, _, _, rfl⟩
    · exact .inr (.inr (.inl ⟨.inr ⟨w, hs, waiting, expired⟩, w, rfl⟩))
    · exact .inl ⟨by simp [Finishes, hs, waits], _, _, _, _, rfl⟩

/-- The engine sets DONE exactly when it finishes the operation (R38, R201). -/
theorem engineStep_done (s h : State) : (engineStep s h).done = true ↔ Finishes s ∨ h.done = true := by
  rcases engineStep_cases s h with ⟨goesOn, _, _, _, _, e⟩ | ⟨goesOn, _, e⟩ | ⟨ends, w, e⟩ | ⟨ends, _, e⟩
  · simp only [e, goesOn, false_or]
  · obtain ⟨_, _, _, _, _, _, e', _⟩ := captureBit_fields s h
    simp only [e, e', goesOn, false_or]
  · simp only [e, waitTimeout_done, ends, true_or]
  · obtain ⟨_, _, _, _, _, _, e', _⟩ := decodeStep_fields s h
    simp only [e, e', finish_done, ends, true_or]

/-- The end of an operation names its result (R201). -/
theorem engineStep_result_of_finishes {s : State} (ends : Finishes s) (h : State) :
    (engineStep s h).result = .ok ∨ (engineStep s h).result = .timeout ∨ (engineStep s h).result = .checksum := by
  rcases engineStep_cases s h with ⟨goesOn, _⟩ | ⟨goesOn, _⟩ | ⟨_, w, e⟩ | ⟨_, _, e⟩
  · exact absurd ends goesOn
  · exact absurd ends goesOn
  · exact .inr (.inl (by rw [e, waitTimeout_result]))
  · obtain ⟨code, _, _, _, _, _, e', named⟩ := decodeStep_fields s h
    rw [e, e', finish_result]
    exact named.imp_right .inr

/-- A cycle that does not finish keeps RESULT and TO_STATE (R39). -/
theorem engineStep_result_of_not_finishes {s : State} (goesOn : ¬ Finishes s) (h : State) :
    (engineStep s h).result = h.result ∧ (engineStep s h).toState = h.toState := by
  rcases engineStep_cases s h with ⟨_, _, _, _, _, e⟩ | ⟨_, _, e⟩ | ⟨ends, _⟩ | ⟨ends, _⟩
  · simp only [e, and_self]
  · obtain ⟨_, _, _, _, _, _, e', _⟩ := captureBit_fields s h
    simp only [e, e', and_self]
  · exact absurd ends goesOn
  · exact absurd ends goesOn

/-- No rule of the engine writes CMDERR, MODE_B or PACE_L. -/
theorem engineStep_keeps (s h : State) : (engineStep s h).cmderr = h.cmderr
    ∧ (engineStep s h).modeB = h.modeB ∧ (engineStep s h).paceL = h.paceL := by
  rcases engineStep_cases s h with ⟨_, _, _, _, _, e⟩ | ⟨_, _, e⟩ | ⟨_, w, e⟩ | ⟨_, _, e⟩
  · simp only [e, and_self]
  · obtain ⟨_, _, _, _, _, _, e', _⟩ := captureBit_fields s h
    simp only [e, e', and_self]
  · simp [e]
  · obtain ⟨_, _, _, _, _, _, e', _⟩ := decodeStep_fields s h
    simp [e, e']

/-- RXSUM and CALCSUM are written in the decode step alone (R144). -/
theorem engineStep_sums {s : State} (h : State) (other : s.st ≠ .decode) :
    (engineStep s h).rxsum = h.rxsum ∧ (engineStep s h).calcsum = h.calcsum := by
  rcases engineStep_cases s h with ⟨_, _, _, _, _, e⟩ | ⟨_, _, e⟩ | ⟨_, w, e⟩ | ⟨_, decodes, _⟩
  · simp only [e, and_self]
  · obtain ⟨_, _, _, _, _, _, e', _⟩ := captureBit_fields s h
    simp only [e, e', and_self]
  · simp [e]
  · exact absurd decodes other

/-- FRAME, SHIFT and BITCNT are written at a captured bit alone, FRAME at the fortieth (R33, R34, R117). -/
theorem engineStep_capture (s h : State) :
    ((engineStep s h).frame = h.frame ∧ (engineStep s h).bitcnt = h.bitcnt ∧ (engineStep s h).shift = h.shift)
      ∨ (s.st = .wait .bitF ∧ (engineStep s h).bitcnt = s.bitcnt + 1#6
        ∧ ((engineStep s h).frame ≠ h.frame → s.bitcnt.toNat = 39 ∧ (engineStep s h).st = .decode
          ∧ (engineStep s h).frame = (engineStep s h).shift)) := by
  rcases engineStep_cases s h with ⟨_, _, _, _, _, e⟩ | ⟨_, bitF, e⟩ | ⟨_, w, e⟩ | ⟨_, _, e⟩
  · exact .inl (by simp only [e, and_self])
  · obtain ⟨_, _, _, _, _, _, e', last⟩ := captureBit_fields s h
    rw [e, e']
    exact .inr ⟨bitF, rfl, last⟩
  · exact .inl (by simp [e])
  · obtain ⟨_, _, _, _, _, _, e', _⟩ := decodeStep_fields s h
    exact .inl (by simp [e, e'])

/-! ## The end of the cycle writes SYNC and the inputs alone -/

@[simp] theorem clockEdge_sync0 (s h : State) : (clockEdge s h).sync0 = s.pinIn := rfl
@[simp] theorem clockEdge_sync1 (s h : State) : (clockEdge s h).sync1 = s.sync0 := rfl
@[simp] theorem clockEdge_st (s h : State) : (clockEdge s h).st = (engineStep s h).st := rfl
@[simp] theorem clockEdge_modeB (s h : State) : (clockEdge s h).modeB = (engineStep s h).modeB := rfl
@[simp] theorem clockEdge_paceL (s h : State) : (clockEdge s h).paceL = (engineStep s h).paceL := rfl
@[simp] theorem clockEdge_shift (s h : State) : (clockEdge s h).shift = (engineStep s h).shift := rfl
@[simp] theorem clockEdge_frame (s h : State) : (clockEdge s h).frame = (engineStep s h).frame := rfl
@[simp] theorem clockEdge_bitcnt (s h : State) : (clockEdge s h).bitcnt = (engineStep s h).bitcnt := rfl
@[simp] theorem clockEdge_rxsum (s h : State) : (clockEdge s h).rxsum = (engineStep s h).rxsum := rfl
@[simp] theorem clockEdge_calcsum (s h : State) : (clockEdge s h).calcsum = (engineStep s h).calcsum := rfl
@[simp] theorem clockEdge_done (s h : State) : (clockEdge s h).done = (engineStep s h).done := rfl
@[simp] theorem clockEdge_result (s h : State) : (clockEdge s h).result = (engineStep s h).result := rfl
@[simp] theorem clockEdge_cmderr (s h : State) : (clockEdge s h).cmderr = (engineStep s h).cmderr := rfl
@[simp] theorem clockEdge_toState (s h : State) : (clockEdge s h).toState = (engineStep s h).toState := rfl

/-! ## The flags and the result -/

theorem presents_statusWrite_iff (s : State) (n : Nat) :
    (∃ lo data, Presents s (.wrStatus lo data) ∧ data.getLsbD n = true)
      ↔ ∃ data, hostAction s = .acknowledge data ∧ data.getLsbD n = true := by
  constructor
  · exact fun ⟨lo, data, p, set⟩ => ⟨data, (presents_wrStatus_iff s data).1 ⟨lo, p⟩, set⟩
  · rintro ⟨data, e, set⟩
    obtain ⟨lo, p⟩ := (presents_wrStatus_iff s data).2 e
    exact ⟨lo, data, p, set⟩

/-- Settles O41: the engine's half sets DONE, the host's half clears it. -/
theorem doneIsStickyUntilAcknowledged : Obligations.DoneIsStickyUntilAcknowledged := by
  refine ⟨rfl, fun s reset => ⟨_, step_reset reset, rfl⟩, fun s run => ⟨_, step_eq_clockEdge run, ?_⟩⟩
  rw [clockEdge_done, engineStep_done, hostHalf, apply_done, accepts_iff, presents_statusWrite_iff]
  rfl

/-- Settles O43: no rule of the engine writes CMDERR, so the host's half decides it. -/
theorem cmderrIsStickyUntilAcknowledged : Obligations.CmderrIsStickyUntilAcknowledged := by
  refine ⟨rfl, fun s reset => ⟨_, step_reset reset, rfl⟩, fun s run => ⟨_, step_eq_clockEdge run, ?_⟩⟩
  obtain ⟨kept, _, _⟩ := engineStep_keeps s (hostHalf s)
  rw [clockEdge_cmderr, kept, hostHalf, apply_cmderr, ignoresCommand_iff, presents_statusWrite_iff]
  rfl

theorem not_finishes_of_accepts {s : State} (accepted : Accepts s) : ¬ Finishes s :=
  not_finishes_of_st accepted.1 nofun nofun

/-- An accepted command clears RESULT and TO_STATE (R100, R101, R140). -/
theorem hostHalf_result_of_accepts {s : State} (accepted : Accepts s) :
    (hostHalf s).result = .none ∧ (hostHalf s).toState = none := by
  rcases apply_cases (hostAction s) (beginCycle s) with ⟨_, _, _, e⟩ | ⟨_, _, e⟩ | ⟨none, _⟩
  · simp [hostHalf, e]
  · simp [hostHalf, e]
  · exact absurd ((accepts_iff s).1 accepted) none

/-- Every other host operation keeps them. -/
theorem hostHalf_result_of_not_accepts {s : State} (kept : ¬ Accepts s) :
    (hostHalf s).result = s.result ∧ (hostHalf s).toState = s.toState := by
  rw [accepts_iff] at kept
  rcases apply_cases (hostAction s) (beginCycle s) with
    ⟨idle, _, a, _⟩ | ⟨idle, a, _⟩ | ⟨_, _, _, _, _, _, _, e, _⟩
  · exact absurd ⟨idle, by rw [a]; rfl⟩ kept
  · exact absurd ⟨idle, by rw [a]; rfl⟩ kept
  · simp [hostHalf, e]

theorem clockEdge_result_of_accepts {s : State} (accepted : Accepts s) :
    (clockEdge s (hostHalf s)).result = .none ∧ (clockEdge s (hostHalf s)).toState = none := by
  obtain ⟨result, named⟩ := engineStep_result_of_not_finishes (not_finishes_of_accepts accepted) (hostHalf s)
  rw [clockEdge_result, clockEdge_toState, result, named]
  exact hostHalf_result_of_accepts accepted

theorem clockEdge_result_kept {s : State} (kept : ¬ Accepts s) (goesOn : ¬ Finishes s) :
    (clockEdge s (hostHalf s)).result = s.result ∧ (clockEdge s (hostHalf s)).toState = s.toState := by
  obtain ⟨result, named⟩ := engineStep_result_of_not_finishes goesOn (hostHalf s)
  rw [clockEdge_result, clockEdge_toState, result, named]
  exact hostHalf_result_of_not_accepts kept

/-- Settles O42: acceptance clears RESULT, `finish` names it, and neither half writes it otherwise. -/
theorem resultHoldsUntilTheNextCommand : Obligations.ResultHoldsUntilTheNextCommand :=
  ⟨⟨rfl, rfl, rfl, rfl, rfl, rfl⟩, fun _ reset => ⟨_, step_reset reset, rfl⟩, fun s run =>
    ⟨_, step_eq_clockEdge run, clockEdge_result_of_accepts, fun ends => engineStep_result_of_finishes ends (hostHalf s),
      clockEdge_result_kept⟩⟩

/-- No step makes RESULT INVALID_FRAME (R148). -/
theorem step_result_legal {s t : State} (legal : s.result ≠ .invalidFrame) (e : step s = .next t) :
    t.result ≠ .invalidFrame := by
  rcases step_next_cases e with ⟨_, rfl⟩ | ⟨_, rfl⟩
  · simp
  · by_cases ends : Finishes s
    · rcases engineStep_result_of_finishes ends (hostHalf s) with named | named | named <;>
        simp [clockEdge_result, named]
    · by_cases accepted : Accepts s
      · rw [(clockEdge_result_of_accepts accepted).1]
        exact nofun
      · rwa [(clockEdge_result_kept accepted ends).1]

/-! ## The data registers, the mode and the pacing -/

/-- FRAME is written by the host in IDLE, and the checksum registers never (R166, R167). -/
theorem hostHalf_frame (s : State) : ((hostHalf s).frame ≠ s.frame →
      s.st = .idle ∧ ∃ lo data, Presents s (.wrFrameHi lo data) ∨ Presents s (.wrFrameLo lo data))
    ∧ (hostHalf s).rxsum = s.rxsum ∧ (hostHalf s).calcsum = s.calcsum := by
  rcases apply_cases (hostAction s) (beginCycle s) with
    ⟨_, _, _, e⟩ | ⟨_, _, e⟩ | ⟨_, frame, _, _, _, _, _, e, _, written⟩
  · simp [hostHalf, e]
  · simp [hostHalf, e]
  · refine ⟨fun differs => ?_, by simp [hostHalf, e]⟩
    obtain ⟨idle, data, a | a⟩ := written (by simpa [hostHalf, e] using differs)
    · obtain ⟨lo, p⟩ := asked_of_hostAction a
      exact ⟨idle, lo, data, .inl p⟩
    · obtain ⟨lo, p⟩ := asked_of_hostAction a
      exact ⟨idle, lo, data, .inr p⟩

/-- Acceptance of an acquisition clears BITCNT and SHIFT and latches the mode and the pacing; every other host operation
keeps the four (R100, R101). -/
theorem hostHalf_latches (s : State) :
    ((hostHalf s).bitcnt = s.bitcnt ∧ (hostHalf s).shift = s.shift ∧ (hostHalf s).modeB = s.modeB
        ∧ (hostHalf s).paceL = s.paceL)
      ∨ (Accepts s ∧ (hostHalf s).bitcnt = 0#6 ∧ (hostHalf s).shift = 0#40 ∧ (hostHalf s).paceL = s.cfgPace
        ∧ hostAction s = .acquire (hostHalf s).modeB) := by
  rcases apply_cases (hostAction s) (beginCycle s) with
    ⟨idle, bounded, a, e⟩ | ⟨_, _, e⟩ | ⟨_, _, _, _, _, _, _, e, _⟩
  · have accepted : Accepts s := (accepts_iff s).2 ⟨idle, by rw [a]; rfl⟩
    rw [hostHalf, e]
    exact .inr ⟨accepted, rfl, rfl, rfl, a⟩
  · exact .inl (by simp [hostHalf, e])
  · exact .inl (by simp [hostHalf, e])

/-- A step with `rst` = 0 is the clock edge over the host's half. -/
theorem step_next_running {s t : State} (running : s.ports.rst = false) (e : step s = .next t) :
    t = clockEdge s (hostHalf s) := by
  rcases step_next_cases e with ⟨reset, _⟩ | ⟨_, e⟩
  · simp [running] at reset
  · exact e

/-- Settles O46: the writers of the host's half and of the engine's, each with its own states. -/
theorem dataRegistersHaveOneWriterEach : Obligations.DataRegistersHaveOneWriterEach := by
  intro s t running e
  obtain rfl := step_next_running running e
  obtain ⟨hostFrame, hostRx, hostCalc⟩ := hostHalf_frame s
  refine ⟨fun differs => ?_, fun differs => ?_, fun differs => ?_⟩
  · rcases engineStep_capture s (hostHalf s) with ⟨frame, _⟩ | ⟨bitF, _, last⟩
    · exact .inl (hostFrame (frame ▸ differs))
    · have busy : (hostHalf s).frame = s.frame := Decidable.byContradiction fun written => by
        obtain ⟨idle, _⟩ := hostFrame written
        exact EngineState.noConfusion (idle.symm.trans bitF)
      exact .inr ⟨bitF, last (busy ▸ differs)⟩
  · refine Decidable.byContradiction fun other => ?_
    obtain ⟨rx, calc'⟩ := engineStep_sums (hostHalf s) other
    exact differs.elim (absurd (rx.trans hostRx)) (absurd (calc'.trans hostCalc))
  · rcases engineStep_capture s (hostHalf s) with ⟨_, bitcnt, shift⟩ | ⟨bitF, bitcnt, _⟩
    · rw [clockEdge_bitcnt, clockEdge_shift, bitcnt, shift] at differs ⊢
      rcases hostHalf_latches s with ⟨keptCnt, keptShift, _⟩ | ⟨accepted, zero, zero', _⟩
      · simp [keptCnt, keptShift] at differs
      · exact .inl ⟨accepted, zero, zero'⟩
    · exact .inr ⟨bitF, bitcnt⟩

/-- Settles O47: the engine writes neither, and the host's half only at the acceptance of an acquisition. -/
theorem modeAndPacingAreLatched : Obligations.ModeAndPacingAreLatched := by
  intro s t running e differs
  obtain rfl := step_next_running running e
  obtain ⟨_, mode, pace⟩ := engineStep_keeps s (hostHalf s)
  rw [clockEdge_modeB, clockEdge_paceL, mode, pace] at differs ⊢
  rcases hostHalf_latches s with ⟨_, _, keptMode, keptPace⟩ | ⟨⟨idle, _⟩, _, _, latched, a⟩
  · simp [keptMode, keptPace] at differs
  · refine ⟨idle, latched, ?_⟩
    cases bounded : (hostHalf s).modeB with
    | true =>
      obtain ⟨lo, ign, p⟩ := asked_of_hostAction (a.trans (congrArg _ bounded))
      exact ⟨lo, ign, .inl ⟨p, rfl⟩⟩
    | false =>
      obtain ⟨lo, ign, p⟩ := asked_of_hostAction (a.trans (congrArg _ bounded))
      exact ⟨lo, ign, .inr ⟨p, rfl⟩⟩

/-! ## The synchronizer and the pins -/

/-- Settles O7: the clock edge shifts SYNC whatever the two halves of the cycle do. -/
theorem synchronizerShiftsEveryCycle : Obligations.SynchronizerShiftsEveryCycle :=
  ⟨⟨rfl, rfl⟩, fun s reset => ⟨_, step_reset reset, resetCycle_sync0 s, resetCycle_sync1 s⟩,
    fun s run => ⟨_, step_eq_clockEdge run, clockEdge_sync0 s _, clockEdge_sync1 s _⟩⟩

/-- Settles O20: by the states of ST and their codes. -/
theorem pinsFollowTheState : Obligations.PinsFollowTheState := by
  intro s
  unfold pinOe pinOut
  cases s.st with
  | wait w => cases w <;> simp [stateCode, waitCode]
  | _ => simp [stateCode]

end Sys2Proof.Machine
end

section
/-! Two blocks that differ only where nothing shows (spec/10_state.md R30, R46): the width of TCNT, and ARM, PACE_L, TCNT,
PCNT and SHIFT. What keeps them looking the same is that no rule reads such an element before it is written again
in both (`HiddenAgrees`), and that two values of TCNT that come apart in a wait are both past BIT_CYCLES. -/

namespace Sys2Proof.Machine

/-! ## Runs of two blocks side by side -/

/-- Two blocks that look the same and step together look the same after every run. -/
theorem runFor_looks_same {R : State → State → Prop} (looks : ∀ s u, R s u → observation s = observation u)
    (steps : ∀ s u, R s u → ∃ t v, step s = .next t ∧ step u = .next v ∧ R t v) {n : Nat} {s u : State} (related : R s u) :
    ∃ t v, runFor n s = .next t ∧ runFor n u = .next v ∧ observation t = observation v := by
  induction n generalizing s u with
  | zero => exact ⟨s, u, rfl, rfl, looks s u related⟩
  | succ n ih =>
    obtain ⟨t, v, es, eu, related'⟩ := steps s u related
    rw [runFor_succ es, runFor_succ eu]
    exact ih related'

/-! ## The hidden elements -/

/-- The elements of a state that no register and no output shows, and the width of TCNT. -/
structure Hidden where
  tw : Nat
  arm : Bool
  paceL : Bool
  tcnt : Nat
  pcnt : Nat
  shift : Frame

/-- The state with other hidden elements. -/
def State.withHidden (e : Hidden) (s : State) : State :=
  { s with
    params := { s.params with tw := e.tw }
    arm := e.arm, paceL := e.paceL, tcnt := e.tcnt, pcnt := e.pcnt, shift := e.shift }

/-- The hidden elements of a state. -/
def State.hidden (s : State) : Hidden := ⟨s.params.tw, s.arm, s.paceL, s.tcnt, s.pcnt, s.shift⟩

theorem readValue_withHidden (e : Hidden) (s : State) : readValue (s.withHidden e) = readValue s := by
  funext r
  cases r <;> rfl

theorem observation_withHidden (e : Hidden) (s : State) : observation (s.withHidden e) = observation s := by
  rw [observation, readValue_withHidden]
  rfl

/-- The two values of TCNT are the same; or the widths differ, the wait is unbounded, and both are past BIT_CYCLES. -/
def CountersAgree (e : Hidden) (s : State) : Prop :=
  e.tcnt = s.tcnt
    ∨ (e.tw ≠ s.params.tw ∧ s.modeB = false ∧ bitCycles s.params ≤ e.tcnt ∧ bitCycles s.params ≤ s.tcnt)

/-- The hidden elements agree with the state's own where the rules from ST on can still read them. -/
def HiddenAgrees (e : Hidden) (s : State) : Prop :=
  match s.st with
  | .idle => True
  | .trigH0 | .trigOe | .trigLow | .trigH1 => e.paceL = s.paceL ∧ e.shift = s.shift ∧ e.tcnt = s.tcnt
  | .wait _ => e.paceL = s.paceL ∧ e.shift = s.shift ∧ e.arm = s.arm ∧ e.pcnt = s.pcnt ∧ CountersAgree e s
  | .decode => True

/-- The widths of TCNT are the same, or both legal in a state of the invariant. -/
def WidthFits (tw : Nat) (s : State) : Prop :=
  tw = s.params.tw ∨ (Inv s ∧ legalParams { s.params with tw := tw } = true)

/-- The second state is the first with other hidden elements, which agree where they can be read. -/
def HiddenTwins (tw : Nat) (s u : State) : Prop := ∃ e : Hidden, e.tw = tw ∧ HiddenAgrees e s ∧ u = s.withHidden e

theorem hiddenAgrees_idle (e : Hidden) {s : State} (hs : s.st = .idle) : HiddenAgrees e s := by simp [HiddenAgrees, hs]

theorem hiddenAgrees_decode (e : Hidden) {s : State} (hs : s.st = .decode) : HiddenAgrees e s := by
  simp [HiddenAgrees, hs]

theorem hiddenAgrees_trigger (e : Hidden) {s : State}
    (hs : s.st = .trigH0 ∨ s.st = .trigOe ∨ s.st = .trigLow ∨ s.st = .trigH1) :
    HiddenAgrees e s ↔ e.paceL = s.paceL ∧ e.shift = s.shift ∧ e.tcnt = s.tcnt := by
  rcases hs with hs | hs | hs | hs <;> simp [HiddenAgrees, hs]

theorem hiddenAgrees_wait (e : Hidden) {s : State} {w : EdgeWait} (hs : s.st = .wait w) : HiddenAgrees e s ↔
    e.paceL = s.paceL ∧ e.shift = s.shift ∧ e.arm = s.arm ∧ e.pcnt = s.pcnt ∧ CountersAgree e s := by
  simp [HiddenAgrees, hs]

/-! ## TCNT in two widths -/

/-- Counters that are the same, or both past BIT_CYCLES, stay so when they count up to different greatest values. -/
theorem tcntNext_agrees {p : Params} {tw a b : Nat} (legal : legalParams p = true)
    (legal' : legalParams { p with tw := tw } = true) (agree : a = b ∨ (bitCycles p ≤ a ∧ bitCycles p ≤ b)) :
    tcntNext { p with tw := tw } a = tcntNext p b
      ∨ (bitCycles p ≤ tcntNext { p with tw := tw } a ∧ bitCycles p ≤ tcntNext p b) := by
  obtain ⟨_, _, _, room, _⟩ := (legalParams_iff _).1 legal
  obtain ⟨_, _, _, room', _⟩ := (legalParams_iff _).1 legal'
  simp only [tcntNext, bitCycles, timeoutCycles] at *
  omega

/-- Within the trigger time and within the timeout neither counter is at its greatest value. -/
theorem tcntNext_other_width {p : Params} {tw t : Nat} (legal : legalParams p = true)
    (legal' : legalParams { p with tw := tw } = true) (within : t + 1 ≤ trigCycles p - 1 ∨ t ≤ timeoutCycles p) :
    tcntNext { p with tw := tw } t = tcntNext p t := by
  obtain ⟨_, _, trig, room, _⟩ := (legalParams_iff _).1 legal
  obtain ⟨_, _, trig', room', _⟩ := (legalParams_iff _).1 legal'
  simp only [tcntNext, trigCycles, timeoutCycles] at *
  omega

/-- TRIG_LOW counts the same in both widths. -/
theorem tcntNext_trigLow {tw : Nat} {h : State} (fits : WidthFits tw h) (hs : h.st = .trigLow)
    (more : h.tcnt ≠ trigCycles h.params - 1) :
    tcntNext { h.params with tw := tw } h.tcnt = tcntNext h.params h.tcnt := by
  rcases fits with rfl | ⟨inv, legal⟩
  · rfl
  · have count := inv.trig_count hs
    exact tcntNext_other_width inv.params_legal legal (.inl (by omega))

/-- A wait that goes on keeps the counters in agreement. -/
theorem countersAgree_waitContinue {e : Hidden} {h : State} {w : EdgeWait} (fits : WidthFits e.tw h)
    (waits : timesOut h = false) (agree : CountersAgree e h) :
    CountersAgree { e with tcnt := tcntNext { h.params with tw := e.tw } e.tcnt } (waitContinue w h h) := by
  by_cases same : e.tw = h.params.tw
  · rcases agree with eq | ⟨differ, _⟩
    · exact .inl (by simp only [same, eq, waitContinue_tcnt])
    · exact absurd same differ
  · obtain ⟨inv, legal⟩ := fits.resolve_left same
    by_cases bounded : h.modeB = true
    · have eq : e.tcnt = h.tcnt := agree.resolve_right (by simp [bounded])
      have within : h.tcnt ≤ timeoutCycles h.params := by simpa [timesOut, bounded] using waits
      exact .inl (by rw [eq]; exact tcntNext_other_width inv.params_legal legal (.inr within))
    · rcases tcntNext_agrees inv.params_legal legal (agree.imp_right fun ⟨_, _, past⟩ => past) with eq | past
      · exact .inl eq
      · exact .inr ⟨same, Bool.eq_false_iff.2 bounded, past⟩

/-! ## The engine -/

theorem timesOut_withHidden {e : Hidden} {h : State} (agree : CountersAgree e h) :
    timesOut (h.withHidden e) = timesOut h := by
  rcases agree with eq | ⟨_, unbounded, _⟩
  · simp only [timesOut, State.withHidden, eq]
    rfl
  · simp [timesOut, State.withHidden, unbounded]

theorem classifiedBit_withHidden {e : Hidden} {h : State} (agree : CountersAgree e h) :
    classifiedBit (h.withHidden e) = classifiedBit h := by
  rcases agree with eq | ⟨_, _, past, past'⟩
  · simp only [classifiedBit, State.withHidden, eq]
    rfl
  · simp only [classifiedBit, past', decide_true, decide_eq_true_eq, ge_iff_le]
    exact past

/-- Entering a wait writes ARM, TCNT and PCNT; PACE_L and SHIFT are to agree before. -/
theorem hiddenTwins_enterWait (e : Hidden) {h : State} (w : EdgeWait) (pace : e.paceL = h.paceL) (shift : e.shift = h.shift) :
    HiddenTwins e.tw (enterWait w h) (enterWait w (h.withHidden e)) :=
  ⟨{ e with arm := false, tcnt := 0, pcnt := 0 }, rfl, ⟨pace, shift, rfl, rfl, .inl rfl⟩, rfl⟩

theorem completes_withHidden {e : Hidden} {h : State} (w : EdgeWait) (arm : e.arm = h.arm) :
    completes w (h.withHidden e) = completes w h := by
  rw [Bool.eq_iff_iff, completes_iff, completes_iff]
  simp [State.withHidden, arm]

theorem hiddenTwins_captureBit {e : Hidden} {h : State} (pace : e.paceL = h.paceL) (shift : e.shift = h.shift)
    (counters : CountersAgree e h) :
    HiddenTwins e.tw (captureBit h h) (captureBit (h.withHidden e) (h.withHidden e)) := by
  have same : shiftedIn (h.withHidden e).shift (classifiedBit (h.withHidden e)) = shiftedIn h.shift (classifiedBit h) := by
    rw [classifiedBit_withHidden counters, show (h.withHidden e).shift = h.shift from shift]
  rcases captureBit_cases h h with ⟨last, eq⟩ | ⟨more, eq⟩ <;>
    rcases captureBit_cases (h.withHidden e) (h.withHidden e) with ⟨last', eq'⟩ | ⟨more', eq'⟩
  · rw [eq, eq', same]
    exact ⟨{ e with shift := shiftedIn h.shift (classifiedBit h) }, rfl, hiddenAgrees_decode _ rfl, rfl⟩
  · exact absurd last more'
  · exact absurd last' more
  · rw [eq, eq', same]
    exact hiddenTwins_enterWait { e with shift := shiftedIn h.shift (classifiedBit h) } .bitR pace rfl

theorem hiddenTwins_waitComplete {e : Hidden} {h : State} (w : EdgeWait) (pace : e.paceL = h.paceL)
    (shift : e.shift = h.shift) (counters : CountersAgree e h) :
    HiddenTwins e.tw (waitComplete w h h) (waitComplete w (h.withHidden e) (h.withHidden e)) := by
  cases w with
  | preF1 => exact hiddenTwins_enterWait e .preR pace shift
  | preR => exact hiddenTwins_enterWait e .preF2 pace shift
  | preF2 => exact hiddenTwins_enterWait e .bitR pace shift
  | bitR => exact hiddenTwins_enterWait e .bitF pace shift
  | bitF => exact hiddenTwins_captureBit pace shift counters

theorem hiddenTwins_waitContinue {e : Hidden} {h : State} {w : EdgeWait} (hs : h.st = .wait w) (fits : WidthFits e.tw h)
    (agree : HiddenAgrees e h) (waits : timesOut h = false) :
    HiddenTwins e.tw (waitContinue w h h) (waitContinue w (h.withHidden e) (h.withHidden e)) := by
  obtain ⟨pace, shift, arm, pcnt, counters⟩ := (hiddenAgrees_wait e hs).1 agree
  have counters' := countersAgree_waitContinue (w := w) fits waits counters
  refine ⟨{ e with
    arm := (waitContinue w h h).arm
    tcnt := tcntNext { h.params with tw := e.tw } e.tcnt
    pcnt := (waitContinue w h h).pcnt }, rfl, ?_, ?_⟩
  · exact (hiddenAgrees_wait _ (s := waitContinue w h h) hs).2 ⟨pace, shift, rfl, rfl, counters'⟩
  · obtain ⟨tw, arm', pace', tcnt, pcnt', shift'⟩ := e
    subst pace shift arm pcnt
    rfl

theorem hiddenTwins_edgeWaitStep {e : Hidden} {h : State} {w : EdgeWait} (hs : h.st = .wait w) (fits : WidthFits e.tw h)
    (agree : HiddenAgrees e h) :
    HiddenTwins e.tw (edgeWaitStep w h h) (edgeWaitStep w (h.withHidden e) (h.withHidden e)) := by
  obtain ⟨pace, shift, arm, _, counters⟩ := (hiddenAgrees_wait e hs).1 agree
  unfold edgeWaitStep
  rw [completes_withHidden w arm, timesOut_withHidden counters]
  split
  · exact hiddenTwins_waitComplete w pace shift counters
  · split
    · exact ⟨e, rfl, hiddenAgrees_idle e rfl, rfl⟩
    · exact hiddenTwins_waitContinue hs fits agree (Bool.eq_false_iff.2 ‹_›)

theorem hiddenTwins_trigLowStep {e : Hidden} {h : State} (hs : h.st = .trigLow) (fits : WidthFits e.tw h)
    (agree : HiddenAgrees e h) :
    HiddenTwins e.tw (trigLowStep h h) (trigLowStep (h.withHidden e) (h.withHidden e)) := by
  obtain ⟨pace, shift, tcnt⟩ := (hiddenAgrees_trigger e (s := h) (by simp [hs])).1 agree
  rcases trigLowStep_cases h h with ⟨last, eq⟩ | ⟨more, eq⟩ <;>
    rcases trigLowStep_cases (h.withHidden e) (h.withHidden e) with ⟨last', eq'⟩ | ⟨more', eq'⟩
  · rw [eq, eq']
    exact ⟨e, rfl, ⟨pace, shift, tcnt⟩, rfl⟩
  · exact absurd (tcnt.trans last) more'
  · exact absurd (tcnt.symm.trans last') more
  · have count : tcntNext (h.withHidden e).params (h.withHidden e).tcnt = tcntNext h.params h.tcnt :=
      (congrArg _ tcnt).trans (tcntNext_trigLow fits hs more)
    rw [eq, eq', count]
    exact ⟨{ e with tcnt := tcntNext h.params h.tcnt }, rfl,
      (hiddenAgrees_trigger _ (by simp [hs])).2 ⟨pace, shift, rfl⟩, rfl⟩

theorem hiddenTwins_decodeStep (e : Hidden) (h : State) :
    HiddenTwins e.tw (decodeStep h h) (decodeStep (h.withHidden e) (h.withHidden e)) := by
  refine ⟨e, rfl, hiddenAgrees_idle e ?_, ?_⟩
  · rcases decodeStep_cases h h with ⟨_, eq⟩ | ⟨_, eq⟩ <;> rw [eq] <;> rfl
  · change (if checksumOk h.frame = true then _ else _) = State.withHidden e (decodeStep h h)
    unfold decodeStep
    split <;> rfl

/-- The rules of the engine keep two blocks twins. -/
theorem hiddenTwins_engineStep {e : Hidden} {h : State} (fits : WidthFits e.tw h) (agree : HiddenAgrees e h) :
    HiddenTwins e.tw (engineStep h h) (engineStep (h.withHidden e) (h.withHidden e)) := by
  cases hs : h.st with
  | idle =>
    rw [engineStep_idle h hs, engineStep_idle _ (s := h.withHidden e) hs]
    exact ⟨e, rfl, agree, rfl⟩
  | trigH0 =>
    rw [engineStep_trigH0 h hs, engineStep_trigH0 _ (s := h.withHidden e) hs]
    exact ⟨e, rfl, (hiddenAgrees_trigger e (s := h) (by simp [hs])).1 agree, rfl⟩
  | trigOe =>
    rw [engineStep_trigOe h hs, engineStep_trigOe _ (s := h.withHidden e) hs]
    obtain ⟨pace, shift, _⟩ := (hiddenAgrees_trigger e (s := h) (by simp [hs])).1 agree
    exact ⟨{ e with tcnt := 0 }, rfl, ⟨pace, shift, rfl⟩, rfl⟩
  | trigLow =>
    rw [engineStep_trigLow h hs, engineStep_trigLow _ (s := h.withHidden e) hs]
    exact hiddenTwins_trigLowStep hs fits agree
  | trigH1 =>
    rw [engineStep_trigH1 h hs, engineStep_trigH1 _ (s := h.withHidden e) hs]
    obtain ⟨pace, shift, _⟩ := (hiddenAgrees_trigger e (s := h) (by simp [hs])).1 agree
    exact hiddenTwins_enterWait e .preF1 pace shift
  | wait w =>
    rw [engineStep_wait h hs, engineStep_wait _ (s := h.withHidden e) hs]
    exact hiddenTwins_edgeWaitStep hs fits agree
  | decode =>
    rw [engineStep_decode h hs, engineStep_decode _ (s := h.withHidden e) hs]
    exact hiddenTwins_decodeStep e h

/-! ## The host -/

theorem hiddenTwins_command {accept : State → State} {e : Hidden} {s : State} (agree : HiddenAgrees e s)
    (accepted : HiddenTwins e.tw (accept s) (accept (s.withHidden e))) :
    HiddenTwins e.tw (command accept s) (command accept (s.withHidden e)) := by
  by_cases idle : s.st = .idle
  · rwa [command_idle _ idle, command_idle _ (s := s.withHidden e) idle]
  · rw [command_busy _ idle, command_busy _ (s := s.withHidden e) idle]
    exact ⟨e, rfl, agree, rfl⟩

theorem hiddenTwins_hostWriteFrame (f : Frame) {e : Hidden} {s : State} (agree : HiddenAgrees e s) :
    HiddenTwins e.tw (hostWriteFrame f s) (hostWriteFrame f (s.withHidden e)) := by
  by_cases idle : s.st = .idle
  · rw [hostWriteFrame, hostWriteFrame, if_pos idle, if_pos (show (s.withHidden e).st = .idle from idle)]
    exact ⟨e, rfl, agree, rfl⟩
  · rw [hostWriteFrame, hostWriteFrame, if_neg idle, if_neg (show (s.withHidden e).st ≠ .idle from idle)]
    exact ⟨e, rfl, agree, rfl⟩

/-- A host action keeps two blocks twins: it reads no hidden element, and the acceptance of an acquisition writes PACE_L,
TCNT and SHIFT in both. -/
theorem hiddenTwins_apply (a : HostAction) {e : Hidden} {s : State} (agree : HiddenAgrees e s) :
    HiddenTwins e.tw (a.apply s) (a.apply (s.withHidden e)) := by
  cases a with
  | read off =>
    refine ⟨e, rfl, agree, ?_⟩
    rw [HostAction.apply, readValue_withHidden]
    rfl
  | acquire bounded =>
    exact hiddenTwins_command agree
      ⟨{ e with paceL := s.cfgPace, tcnt := 0, shift := 0#40 }, rfl, ⟨rfl, rfl, rfl⟩, rfl⟩
  | decode => exact hiddenTwins_command agree ⟨e, rfl, hiddenAgrees_decode e rfl, rfl⟩
  | writeFrameHi data => exact hiddenTwins_hostWriteFrame (frameWithHi s.frame data) agree
  | writeFrameLo data => exact hiddenTwins_hostWriteFrame (frameWithLo s.frame data) agree
  | _ => exact ⟨e, rfl, agree, rfl⟩

theorem hiddenTwins_hostHalf {e : Hidden} {s : State} (agree : HiddenAgrees e s) :
    HiddenTwins e.tw (hostHalf s) (hostHalf (s.withHidden e)) :=
  hiddenTwins_apply (hostAction s) (s := beginCycle s) agree

/-! ## A cycle -/

theorem widthFits_of_params {tw : Nat} {s t : State} (fits : WidthFits tw s) (params : t.params = s.params)
    (keep : Inv s → Inv t) : WidthFits tw t := by
  rw [WidthFits, params]
  exact fits.imp_right (And.imp_left keep)

theorem hiddenTwins_clockEdge {e : Hidden} {s : State} (fits : WidthFits e.tw s) (agree : HiddenAgrees e s) :
    HiddenTwins e.tw (clockEdge s (hostHalf s)) (clockEdge (s.withHidden e) (hostHalf (s.withHidden e))) := by
  obtain ⟨e', width, agree', eq⟩ := hiddenTwins_hostHalf agree
  have fits' : WidthFits e'.tw (hostHalf s) :=
    widthFits_of_params (width ▸ fits) (hostEffect_params (hostEffect_iff.2 rfl)) inv_hostHalf
  have engine : HiddenTwins e.tw (engineStep s (hostHalf s))
      (engineStep (s.withHidden e) (hostHalf (s.withHidden e))) := by
    rcases engineStep_hostHalf s with ⟨idle, left⟩ | ⟨busy, _, left⟩
    · rw [left, engineStep_idle _ (s := s.withHidden e) idle]
      exact ⟨e', width, agree', eq⟩
    · obtain ⟨_, _, right⟩ := (engineStep_hostHalf (s.withHidden e)).resolve_left fun idle => busy idle.1
      rw [left, right, eq, ← width]
      exact hiddenTwins_engineStep fits' agree'
  obtain ⟨e'', width', agree'', eq'⟩ := engine
  exact ⟨e'', width', agree'', congrArg (fun k => consumeInputs (synchronize s k)) eq'⟩

/-- Twins step together, as long as RESULT is legal, and their next states are twins. -/
theorem hiddenTwins_step {tw : Nat} {s u : State} (twins : HiddenTwins tw s u) (fits : WidthFits tw s)
    (legal : s.result ≠ .invalidFrame) : ∃ t v, step s = .next t ∧ step u = .next v ∧ HiddenTwins tw t v := by
  obtain ⟨e, rfl, agree, rfl⟩ := twins
  by_cases reset : s.ports.rst = true
  · exact ⟨_, _, step_reset reset, step_reset (s := s.withHidden e) reset,
      { (resetCycle s).hidden with tw := e.tw }, rfl, hiddenAgrees_idle _ rfl, rfl⟩
  · have run : Runs s := ⟨Bool.eq_false_iff.2 reset, legal⟩
    exact ⟨_, _, step_eq_clockEdge run, step_eq_clockEdge (s := s.withHidden e) run, hiddenTwins_clockEdge fits agree⟩

/-! ## Every run -/

/-- Twins look the same after every run. -/
theorem hiddenTwins_runFor (n : Nat) {tw : Nat} {s u : State} (twins : HiddenTwins tw s u) (fits : WidthFits tw s)
    (legal : s.result ≠ .invalidFrame) :
    ∃ t v, runFor n s = .next t ∧ runFor n u = .next v ∧ observation t = observation v := by
  refine runFor_looks_same (R := fun s u => HiddenTwins tw s u ∧ WidthFits tw s ∧ s.result ≠ .invalidFrame)
    ?_ ?_ ⟨twins, fits, legal⟩
  · rintro s _ ⟨⟨e, _, _, rfl⟩, _⟩
    exact (observation_withHidden e s).symm
  · rintro s u ⟨twins, fits, legal⟩
    obtain ⟨t, v, es, eu, twins'⟩ := hiddenTwins_step twins fits legal
    exact ⟨t, v, es, eu, twins', widthFits_of_params fits (step_params es) fun inv => everyStepKeepsTheInvariant s t inv es,
      step_result_legal legal es⟩

theorem hiddenAgrees_other_width (tw : Nat) (s : State) : HiddenAgrees { s.hidden with tw := tw } s := by
  unfold HiddenAgrees
  cases s.st with
  | idle => trivial
  | decode => trivial
  | wait w => exact ⟨rfl, rfl, rfl, rfl, .inl rfl⟩
  | _ => exact ⟨rfl, rfl, rfl⟩

/-- Settles O53: a block of another legal width is a twin with the same hidden elements. -/
theorem counterWidthIsUnobservable : Obligations.CounterWidthIsUnobservable := fun n s tw inv legal _ =>
  hiddenTwins_runFor n ⟨{ s.hidden with tw := tw }, rfl, hiddenAgrees_other_width tw s, rfl⟩ (.inr ⟨inv, legal⟩)
    inv.result_legal

/-- Settles O54: two idle blocks of one width are twins, whatever their hidden elements. -/
theorem hiddenStateCarriesNothingOver : Obligations.HiddenStateCarriesNothingOver :=
  fun n s arm paceL tcnt pcnt shift idle legal =>
    hiddenTwins_runFor n ⟨⟨s.params.tw, arm, paceL, tcnt, pcnt, shift⟩, rfl, hiddenAgrees_idle _ idle, rfl⟩ (.inl rfl) legal

end Sys2Proof.Machine
end

section
/-! The bus (spec/20_memory.md R53, R54, R57): its request in five bytes, and what a cycle's ports reach: the host's half of
the cycle, which of an offset looks at the register alone, and no rule of the engine. -/

namespace Sys2Proof.Machine

/-! ## A request in bytes -/

theorem decodeBytes_of_length_lt : ∀ bs : List Byte, bs.length < 5 → decodeBytes bs = .error .narrowAccess
  | [], _ | [_], _ | [_, _], _ | [_, _, _], _ | [_, _, _, _], _ => rfl
  | _ :: _ :: _ :: _ :: _ :: _, short => absurd short (by simp only [List.length_cons]; omega)

theorem decodeBytes_of_lt_length : ∀ bs : List Byte, 5 < bs.length → decodeBytes bs = .error .tooLong
  | [], long | [_], long | [_, _], long | [_, _, _], long | [_, _, _, _], long | [_, _, _, _, _], long => by simp at long
  | _ :: _ :: _ :: _ :: _ :: _ :: _, _ => rfl

/-- The bytes of a word are its bits, eight by eight. -/
theorem littleBytes_toNat (w : Brw) : littleBytes 5 w.toNat =
    [w.extractLsb' 0 8, w.extractLsb' 8 8, w.extractLsb' 16 8, w.extractLsb' 24 8, w.extractLsb' 32 8] := by
  simp [littleBytes, BitVec.extractLsb', Nat.shiftRight_eq_div_pow, Nat.div_div_eq_div_mul]

/-- A word is its bytes put together, seven bits of the highest. -/
theorem bytes_append (w : Brw) : (w.extractLsb' 32 8).extractLsb' 0 7 ++ w.extractLsb' 24 8 ++ w.extractLsb' 16 8
    ++ w.extractLsb' 8 8 ++ w.extractLsb' 0 8 = w := by
  have highest : (w.extractLsb' 32 8).extractLsb' 0 7 = w.extractLsb' 32 7 := by
    ext i hi
    simp only [BitVec.getElem_extractLsb', BitVec.getLsbD_extractLsb', Nat.zero_add,
      decide_eq_true (Nat.lt_succ_of_lt hi), Bool.true_and]
  have join (start len : Nat) : w.extractLsb' (start + 8) len ++ w.extractLsb' start 8 = w.extractLsb' start (len + 8) :=
    BitVec.extractLsb'_append_extractLsb'_eq_extractLsb' rfl
  rw [highest, join 24 7, join 16 15, join 8 23, join 0 31]
  exact BitVec.extractLsb'_eq_self

/-- The five bytes of a word are decoded as the word. -/
theorem decodeBytes_littleBytes (w : Brw) : decodeBytes (littleBytes 5 w.toNat) = .ok (Sys2Proof.decode w) := by
  have bit39 : ¬ (w.extractLsb' 32 8).getLsbD 7 = true := by simp
  rw [littleBytes_toNat]
  refine (if_neg bit39).trans ?_
  rw [bytes_append]

/-- Settles O5: the bytes of a word are decoded as the word, and the word of an instruction as the instruction. -/
theorem onlyAWholeRequestDecodes : Obligations.OnlyAWholeRequestDecodes :=
  ⟨fun i wf => by rw [encodeBytes, decodeBytes_littleBytes, decode_encode wf], decodeBytes_of_length_lt,
    decodeBytes_of_lt_length⟩

/-! ## The engine does not look at the bus -/

/-- The state with other ports from this cycle on and another `bus_rdata`. -/
def State.withBus (hostIn : List HostPorts) (rdata : Word) (s : State) : State :=
  { s with hostIn := hostIn, busRdata := rdata }

theorem trigLowStep_withBus (ps : List HostPorts) (v : Word) (s h : State) :
    trigLowStep s (h.withBus ps v) = (trigLowStep s h).withBus ps v := by
  unfold trigLowStep
  split <;> rfl

theorem captureBit_withBus (ps : List HostPorts) (v : Word) (s h : State) :
    captureBit s (h.withBus ps v) = (captureBit s h).withBus ps v := by
  simp only [captureBit]
  split <;> rfl

theorem edgeWaitStep_withBus (ps : List HostPorts) (v : Word) (w : EdgeWait) (s h : State) :
    edgeWaitStep w s (h.withBus ps v) = (edgeWaitStep w s h).withBus ps v := by
  unfold edgeWaitStep
  split
  · cases w with
    | bitF => exact captureBit_withBus ps v s h
    | _ => rfl
  · split <;> rfl

theorem decodeStep_withBus (ps : List HostPorts) (v : Word) (s h : State) :
    decodeStep s (h.withBus ps v) = (decodeStep s h).withBus ps v := by
  unfold decodeStep
  split <;> rfl

/-- No rule of the engine writes the ports to come or `bus_rdata`. -/
theorem engineStep_withBus (ps : List HostPorts) (v : Word) (s h : State) :
    engineStep s (h.withBus ps v) = (engineStep s h).withBus ps v := by
  unfold engineStep
  cases s.st with
  | trigLow => exact trigLowStep_withBus ps v s h
  | wait w => exact edgeWaitStep_withBus ps v w s h
  | decode => exact decodeStep_withBus ps v s h
  | _ => rfl

/-- The clock edge hands `bus_rdata` on, and the ports of the cycles after this one. -/
theorem clockEdge_withBus (ps : List HostPorts) (v : Word) (s h : State) :
    clockEdge s (h.withBus ps v) = (clockEdge s h).withBus ps.tail v := by
  rw [clockEdge, engineStep_withBus]
  rfl

/-- The clock edge takes the ports to come from the state the host's half leaves. -/
theorem clockEdge_hostIn (ps : List HostPorts) (s h : State) : clockEdge { s with hostIn := ps } h = clockEdge s h := by
  rw [clockEdge, ← engineStep_of_hostSide (s := s) (h := { s with hostIn := ps }) rfl]
  rfl

/-! ## A cycle by its ports -/

/-- The action of a cycle's ports; `hostAction s` is that of `s.ports`. -/
def portsAction (p : HostPorts) : HostAction :=
  match portsRequest p with
  | none => .keep
  | some w => instrAction (Sys2Proof.decode w)

theorem command_hostIn {accept : State → State} (ps : List HostPorts) (s : State)
    (accepts : accept { s with hostIn := ps } = { accept s with hostIn := ps }) :
    command accept { s with hostIn := ps } = { command accept s with hostIn := ps } := by
  unfold command
  split
  · exact accepts
  · rfl

theorem hostWriteFrame_hostIn (f : Frame) (ps : List HostPorts) (s : State) :
    hostWriteFrame f { s with hostIn := ps } = { hostWriteFrame f s with hostIn := ps } := by
  unfold hostWriteFrame
  split <;> rfl

theorem readValue_withBus (ps : List HostPorts) (v : Word) (s : State) : readValue (s.withBus ps v) = readValue s := by
  funext r
  cases r <;> rfl

/-- An action neither reads nor writes the ports to come. -/
theorem apply_hostIn (a : HostAction) (ps : List HostPorts) (s : State) :
    a.apply { s with hostIn := ps } = { a.apply s with hostIn := ps } := by
  cases a with
  | read off =>
    exact congrArg (fun value => { s with hostIn := ps, busRdata := value (regAt off) })
      (readValue_withBus ps s.busRdata s)
  | acquire bounded => exact command_hostIn ps s rfl
  | decode => exact command_hostIn ps s rfl
  | writeFrameHi data => exact hostWriteFrame_hostIn _ ps s
  | writeFrameLo data => exact hostWriteFrame_hostIn _ ps s
  | _ => rfl

/-- A cycle that runs is the action of its ports and the clock edge over it, whatever ports `s` itself lists. -/
theorem step_of_ports {s : State} {p : HostPorts} (rest : List HostPorts) (running : p.rst = false)
    (legal : s.result ≠ .invalidFrame) {h : State} (action : (portsAction p).apply (beginCycle s) = h) :
    step { s with hostIn := p :: rest } = .next ((clockEdge s h).withBus rest h.busRdata) := by
  have half : hostHalf { s with hostIn := p :: rest } = h.withBus (p :: rest) h.busRdata := by
    rw [← action]
    exact apply_hostIn (portsAction p) (p :: rest) (beginCycle s)
  have run : Runs { s with hostIn := p :: rest } := ⟨running, legal⟩
  rw [step_eq_clockEdge run, half, clockEdge_hostIn, clockEdge_withBus]
  rfl

/-- Of a cycle's ports the step sees `rst` and the action, in a reset and in a refused state too. -/
theorem step_congr_ports {s : State} {p q : HostPorts} (rest : List HostPorts) (rst : p.rst = q.rst)
    (action : ∀ u, (portsAction p).apply u = (portsAction q).apply u) :
    step { s with hostIn := p :: rest } = step { s with hostIn := q :: rest } := by
  cases reset : q.rst with
  | true =>
    have left := step_reset (s := { s with hostIn := p :: rest }) (rst.trans reset)
    exact left.trans (step_reset (s := { s with hostIn := q :: rest }) reset).symm
  | false =>
    by_cases refused : s.result = .invalidFrame
    · have left := step_refused (s := { s with hostIn := p :: rest }) (rst.trans reset) refused
      exact left.trans (step_refused (s := { s with hostIn := q :: rest }) reset refused).symm
    · rw [step_of_ports rest (rst.trans reset) refused (action _), step_of_ports rest reset refused rfl]

/-! ## Reads -/

/-- A read writes `bus_rdata` and nothing else (R57, R160). -/
theorem portsAction_rd_apply (off : BitVec 6) (data : Word) (s : State) :
    (portsAction (requestPorts (encode (.rd off data)))).apply (beginCycle s)
      = (beginCycle s).withBus s.hostIn (readValue s (regAt off)) := by
  have read : portsAction (requestPorts (encode (.rd off data))) = .read off := by
    simp only [portsAction, portsRequest_requestPorts, decode_encode (i := .rd off data) rfl, instrAction]
  rw [read, ← readValue_withBus s.hostIn 0#32 s]
  rfl

/-- Settles O12: a read leaves only another `bus_rdata` than no operation does, and the clock edge hands it on. -/
theorem readsHaveNoSideEffect : Obligations.ReadsHaveNoSideEffect := by
  intro s off data rest legal
  refine ⟨_, step_of_ports rest rfl legal rfl, ?_⟩
  rw [step_of_ports rest rfl legal (portsAction_rd_apply off data s), clockEdge_withBus]
  rfl

/-! ## The low bits of an offset -/

/-- OFF[5:2] is the offset divided by four. -/
theorem offReg_toNat (off : BitVec 6) : (offReg off).toNat = off.toNat / 4 := by revert off; decide

theorem instrAction_decodeCommand (lo lo' : BitVec 2) (data : Word) :
    instrAction (decodeCommand lo data) = instrAction (decodeCommand lo' data) := by
  unfold decodeCommand
  split <;> rfl

theorem instrAction_decodeWrite (reg : BitVec 4) (lo lo' : BitVec 2) (data : Word) :
    instrAction (decodeWrite reg lo data) = instrAction (decodeWrite reg lo' data) := by
  unfold decodeWrite
  split
  · exact instrAction_decodeCommand lo lo' data
  all_goals rfl

/-- Offsets of one register ask for the same: a write drops OFF[1:0], and a read reaches the register (R54). -/
theorem instrAction_brw_apply {off off' : BitVec 6} (same : offReg off = offReg off') (we : Bool) (data : Word)
    (s : State) : (instrAction (Sys2Proof.decode (brw we off data))).apply s
      = (instrAction (Sys2Proof.decode (brw we off' data))).apply s := by
  unfold Sys2Proof.decode
  simp only [brwWe_brw, brwOff_brw, brwData_brw, same]
  split
  · rw [instrAction_decodeWrite _ (offLow off) (offLow off')]
  · simp only [instrAction, HostAction.apply, regAt, same]

theorem portsAction_busAddr_apply {p : HostPorts} {addr : BitVec 6} (same : offReg p.busAddr = offReg addr) (s : State) :
    (portsAction p).apply s = (portsAction { p with busAddr := addr }).apply s := by
  unfold portsAction portsRequest
  cases p.busValid with
  | true => exact instrAction_brw_apply same p.busWe p.busWdata s
  | false => rfl

/-- Settles O13: the reset and the refusal look at no offset, and the action of the ports at its register alone. -/
theorem lowAddressBitsAreIgnored : Obligations.LowAddressBitsAreIgnored := by
  intro s p addr rest same
  have register : offReg p.busAddr = offReg addr :=
    BitVec.eq_of_toNat_eq (by rw [offReg_toNat, offReg_toNat, same])
  exact step_congr_ports rest rfl (portsAction_busAddr_apply register)

end Sys2Proof.Machine
end

section
/-! The encoding (spec/30_encoding.md R70 to R72): of any two rows of the opcode table a word fits at most one, and the
instruction it decodes to is encoded in its own. -/

namespace Sys2Proof.Machine

/-- Settles O1: the decoder gives back every operand of a well-formed instruction's word. -/
theorem decodeOfEncodeIsTheInstruction : Obligations.DecodeOfEncodeIsTheInstruction := fun _ wf => decode_encode wf

/-- Settles O2: the decoder answers a well-formed instruction and drops no bit. -/
theorem encodeOfDecodeIsTheWord : Obligations.EncodeOfDecodeIsTheWord := fun w => ⟨wellFormed_decode w, encode_decode w⟩

/-- Settles O4: by evaluation of the decoder at each word. -/
theorem wordsOfTheSpecDecode : Obligations.WordsOfTheSpecDecode := by
  unfold Obligations.WordsOfTheSpecDecode
  decide

/-! ## Exactly one row -/

/-- `filter` leaves one element of a list in which one meets `p` and no two do. -/
theorem filter_eq_singleton {α : Type} {p : α → Bool} {a : α} {l : List α} (mem : a ∈ l) (pa : p a = true)
    (apart : l.Pairwise fun x y => ¬ (p x = true ∧ p y = true)) : l.filter p = [a] := by
  obtain ⟨before, after, rfl⟩ := List.append_of_mem mem
  obtain ⟨_, later, earlier⟩ := List.pairwise_append.1 apart
  exact List.filter_eq_cons_iff.2 ⟨before, after, rfl, fun x hx px => earlier x hx a List.mem_cons_self ⟨px, pa⟩, pa,
    List.filter_eq_nil_iff.2 fun x hx px => List.rel_of_pairwise_cons later hx ⟨pa, px⟩⟩

/-- Two rows that fit one word have the same pattern where both masks look. -/
theorem patterns_agree_of_fits {r q : OpcodeRow} {w : Brw} (hr : r.fits w = true) (hq : q.fits w = true) :
    r.pattern &&& q.mask = q.pattern &&& r.mask := by
  simp only [OpcodeRow.fits, beq_iff_eq] at hr hq
  rw [← hr, ← hq, BitVec.and_assoc, BitVec.and_assoc, BitVec.and_comm r.mask]

/-- The patterns of any two rows of the table differ where both masks look. -/
theorem opcodeTable_patterns_differ : opcodeTable.Pairwise fun r q => r.pattern &&& q.mask ≠ q.pattern &&& r.mask := by
  decide

/-- Every well-formed instruction is encoded in its own row. -/
theorem encodesInItsRow (i : Instr) : Laws.EncodesInItsRow.Statement i := by
  cases i with
  | rd off data => exact Laws.EncodesInItsRow.rd off data
  | nop lo ign => exact Laws.EncodesInItsRow.nop lo ign
  | measure lo ign => exact Laws.EncodesInItsRow.measure lo ign
  | measureLegacy lo ign => exact Laws.EncodesInItsRow.measureLegacy lo ign
  | decode lo ign => exact Laws.EncodesInItsRow.decode lo ign
  | ctrlRsvd47 lo cmd ign => exact Laws.EncodesInItsRow.ctrlRsvd47 lo cmd ign
  | ctrlRsvd8F lo cmd ign => exact Laws.EncodesInItsRow.ctrlRsvd8F lo cmd ign
  | wrStatus lo data => exact Laws.EncodesInItsRow.wrStatus lo data
  | wrConfig lo data => exact Laws.EncodesInItsRow.wrConfig lo data
  | wrFrameHi lo data => exact Laws.EncodesInItsRow.wrFrameHi lo data
  | wrFrameLo lo data => exact Laws.EncodesInItsRow.wrFrameLo lo data
  | wrHumidity lo data => exact Laws.EncodesInItsRow.wrHumidity lo data
  | wrTempRaw lo data => exact Laws.EncodesInItsRow.wrTempRaw lo data
  | wrTemperature lo data => exact Laws.EncodesInItsRow.wrTemperature lo data
  | wrChecksum lo data => exact Laws.EncodesInItsRow.wrChecksum lo data
  | wrProgress lo data => exact Laws.EncodesInItsRow.wrProgress lo data
  | wrParam lo data => exact Laws.EncodesInItsRow.wrParam lo data
  | wrUnmappedB lo data => exact Laws.EncodesInItsRow.wrUnmappedB lo data
  | wrUnmappedC lo data => exact Laws.EncodesInItsRow.wrUnmappedC lo data
  | wrUnmappedD lo data => exact Laws.EncodesInItsRow.wrUnmappedD lo data
  | wrUnmappedE lo data => exact Laws.EncodesInItsRow.wrUnmappedE lo data
  | wrUnmappedF lo data => exact Laws.EncodesInItsRow.wrUnmappedF lo data

/-- The rows that fit a word are the one row of the instruction it decodes to. -/
theorem opcodeTable_filter_fits (w : Brw) :
    (opcodeTable.filter fun r => r.fits w).map (fun r => r.mnemonic) = [(Sys2Proof.decode w).mnemonic] := by
  obtain ⟨r, row, name, fits⟩ := encodesInItsRow (Sys2Proof.decode w) (wellFormed_decode w)
  rw [encode_decode] at fits
  have apart : opcodeTable.Pairwise fun r q => ¬ (r.fits w = true ∧ q.fits w = true) :=
    opcodeTable_patterns_differ.imp fun differ ⟨hr, hq⟩ => differ (patterns_agree_of_fits hr hq)
  rw [filter_eq_singleton row fits apart, List.map_singleton, name]

/-- Settles O3: the word of a cycle is its three ports, and its row is the one of the decoded instruction. -/
theorem everyRequestWordSelectsExactlyOneRow : Obligations.EveryRequestWordSelectsExactlyOneRow :=
  ⟨fun _ quiet => by simp [portsRequest, quiet],
    fun _ valid => ⟨_, by simp only [portsRequest, valid, if_true], brwWe_brw _ _ _, brwOff_brw _ _ _, brwData_brw _ _ _⟩,
    opcodeTable_filter_fits⟩

end Sys2Proof.Machine
end

section
/-! Frames and registers as numbers (spec/30_encoding.md R81 to R84, spec/41_decoder.md R142 to R149). -/

namespace Sys2Proof.Machine

/-- A concatenation is a sum of numbers. -/
theorem toNat_append_eq_add {m n : Nat} (a : BitVec m) (b : BitVec n) : (a ++ b).toNat = 2 ^ n * a.toNat + b.toNat := by
  rw [BitVec.toNat_append, ← Nat.shiftLeft_add_eq_or_of_lt b.isLt, Nat.shiftLeft_eq, Nat.mul_comm]

/-! ## The fields of a frame -/

theorem field0_toNat (f : Frame) : (field0 f).toNat = f.toNat / 2 ^ 32 := by
  have fits : f.toNat < 2 ^ 40 := f.isLt
  rw [field0, BitVec.extractLsb'_toNat, Nat.shiftRight_eq_div_pow]
  omega

theorem field1_toNat (f : Frame) : (field1 f).toNat = f.toNat / 2 ^ 24 % 2 ^ 8 := by
  rw [field1, BitVec.extractLsb'_toNat, Nat.shiftRight_eq_div_pow]

theorem field2_toNat (f : Frame) : (field2 f).toNat = f.toNat / 2 ^ 16 % 2 ^ 8 := by
  rw [field2, BitVec.extractLsb'_toNat, Nat.shiftRight_eq_div_pow]

theorem field3_toNat (f : Frame) : (field3 f).toNat = f.toNat / 2 ^ 8 % 2 ^ 8 := by
  rw [field3, BitVec.extractLsb'_toNat, Nat.shiftRight_eq_div_pow]

theorem field4_toNat (f : Frame) : (field4 f).toNat = f.toNat % 2 ^ 8 := by
  rw [field4, BitVec.extractLsb'_toNat, Nat.shiftRight_zero]

/-- The checksum matches when the four upper fields add up to the lowest (R143, R144). -/
theorem checksumOk_iff_toNat (f : Frame) : checksumOk f = true ↔
    (f.toNat / 2 ^ 32 + f.toNat / 2 ^ 24 + f.toNat / 2 ^ 16 + f.toNat / 2 ^ 8) % 256 = f.toNat % 256 := by
  rw [checksumOk, beq_iff_eq, ← BitVec.toNat_inj, wrappingSum]
  simp only [BitVec.toNat_add, field0_toNat, field1_toNat, field2_toNat, field3_toNat, field4_toNat]
  omega

/-- HUM is the two upper fields (R145). -/
theorem frameHum_toNat (f : Frame) : (frameHum f).toNat = f.toNat / 2 ^ 24 := by
  rw [frameHum, toNat_append_eq_add, field0_toNat, field1_toNat]
  omega

/-- TSIGN and TMAG are the sixteen bits of B2 and B3 (R146). -/
theorem frameTemp_toNat (f : Frame) :
    2 ^ 15 * (frameTsign f).toNat + (frameTmag f).toNat = f.toNat / 2 ^ 8 % 2 ^ 16 := by
  rw [frameTsign, BitVec.getLsbD, Nat.toNat_testBit, frameTmag, toNat_append_eq_add, BitVec.extractLsb'_toNat,
    Nat.shiftRight_zero, field2_toNat, field3_toNat]
  omega

/-- The two writes of LOAD_FRAME leave nothing of the old frame (R89). -/
theorem frameWithLo_frameWithHi_toNat (f : Frame) {v : Nat} (fits : v < 2 ^ 40) :
    (frameWithLo (frameWithHi f (BitVec.ofNat 32 (v / 2 ^ 32))) (BitVec.ofNat 32 (v % 2 ^ 32))).toNat = v := by
  simp only [frameWithLo, frameWithHi, toNat_append_eq_add, BitVec.extractLsb'_toNat, Nat.shiftRight_eq_div_pow,
    BitVec.toNat_ofNat]
  omega

/-! ## STATUS, TEMPERATURE and HUMIDITY -/

theorem statusWord_busy (s : State) : (statusWord s).getLsbD 0 = busy s := by
  simp only [statusWord, bit, BitVec.getLsbD_append, BitVec.getLsbD_ofBool]
  simp

theorem statusWord_done (s : State) : (statusWord s).getLsbD 1 = s.done := by
  simp only [statusWord, bit, BitVec.getLsbD_append, BitVec.getLsbD_ofBool]
  simp

/-- A 15-bit magnitude of either sign keeps its value in 32 bits (R84). -/
theorem temperatureWord_toInt (s : State) :
    (temperatureWord s).toInt = if s.tsign then -(s.tmag.toNat : Int) else (s.tmag.toNat : Int) := by
  have fits : s.tmag.toNat < 2 ^ 15 := s.tmag.isLt
  have wide : (s.tmag.setWidth 32).toInt = s.tmag.toNat := by
    rw [BitVec.toInt_setWidth, Int.bmod_eq_of_le] <;> omega
  unfold temperatureWord
  split
  · rw [BitVec.zero_sub, BitVec.toInt_neg, wide, Int.bmod_eq_of_le] <;> omega
  · exact wide

theorem ten_mul_div_ten (x : Rat) : 10 * (x / 10) = x := by rw [Rat.mul_comm, Rat.div_mul_cancel (by decide)]

/-- The sign of the temperature as a factor is 1 or -1 (R149). -/
theorem ten_mul_temperatureCelsius (s : State) :
    10 * temperatureCelsius s = ((if s.tsign then -(s.tmag.toNat : Int) else (s.tmag.toNat : Int) : Int) : Rat) := by
  rw [temperatureCelsius, ten_mul_div_ten]
  cases s.tsign with
  | false =>
    rw [Bool.toNat_false, if_neg Bool.false_ne_true, Rat.intCast_natCast]
    grind
  | true =>
    rw [Bool.toNat_true, if_pos rfl, Rat.intCast_neg, Rat.intCast_natCast]
    grind

theorem humidityWord_toNat (s : State) : (readValue s .humidity).toNat = s.hum.toNat := by
  rw [readValue, toNat_append_eq_add, BitVec.toNat_ofNat, Nat.zero_mod, Nat.mul_zero, Nat.zero_add]

/-- Settles O36: TEMPERATURE is the signed magnitude, so its range is that of 15 bits and its sign TSIGN. -/
theorem temperatureReadsSignedTenths : Obligations.TemperatureReadsSignedTenths := by
  intro s
  have fits : s.tmag.toNat < 2 ^ 15 := s.tmag.isLt
  have signed : (readValue s .temperature).toInt = _ := temperatureWord_toInt s
  rw [signed, humidityWord_toNat, ten_mul_temperatureCelsius, humidityPercent]
  refine ⟨rfl, by split <;> omega, by split <;> omega, fun negative zero => ?_, rfl, (ten_mul_div_ten _).symm⟩
  simp [readValue, temperatureWord, negative, zero]

end Sys2Proof.Machine
end

section
/-! Host programs (spec/30_encoding.md R89, log 15): a cycle of a program is the action of its ports and the clock edge over
it; a program that has a frame decoded; and the line a program's LINE forms drive. -/

namespace Sys2Proof.Machine

/-! ## One cycle of a program -/

theorem presentCycle_eq {p : HostPorts} {level : Option Bool} {s h : State} (quiet : p.rst = false)
    (legal : s.result ≠ .invalidFrame) (action : (portsAction p).apply (beginCycle (s.withLine level)) = h) :
    presentCycle p level s = .next ((clockEdge (s.withLine level) h).withBus s.hostIn h.busRdata) :=
  step_of_ports s.hostIn quiet (by simpa using legal) action

theorem playProgram_wr {lines : List LineStimulus} {fuel c : Nat} {off : BitVec 6} {value : Word} {rest : List BusForm}
    {s t : State} (cycle : presentCycle (wrPorts off value) (lineAt lines c) s = .next t) :
    playProgram lines (fuel + 1) c (.wr off value :: rest) s = playProgram lines fuel (c + 1) rest t := by
  rw [playProgram, cycle, playProgram.continueWith]

theorem playProgram_rd {lines : List LineStimulus} {fuel c : Nat} {off : BitVec 6} {rest : List BusForm}
    {s t : State} (cycle : presentCycle (rdPorts off) (lineAt lines c) s = .next t) :
    playProgram lines (fuel + 1) c (.rd off :: rest) s = playProgram lines fuel (c + 1) rest t := by
  rw [playProgram, cycle, playProgram.continueWith]

theorem playProgram_wait_succ {lines : List LineStimulus} {fuel c n : Nat} {rest : List BusForm}
    {s t : State} (cycle : presentCycle idlePorts (lineAt lines c) s = .next t) :
    playProgram lines (fuel + 1) c (.wait (n + 1) :: rest) s = playProgram lines fuel (c + 1) (.wait n :: rest) t := by
  rw [playProgram, cycle, playProgram.continueWith]

/-! ## A host that has a frame decoded -/

/-- The action of `WR off, data` is that of a write of the register at `off`. -/
theorem portsAction_wrPorts (reg : BitVec 4) (lo : BitVec 2) (data : Word) :
    portsAction (wrPorts (reg ++ lo) data) = instrAction (decodeWrite reg lo data) := by
  rw [portsAction, wrPorts, portsRequest_requestPorts, ← decode_writeWord, writeWord]

/-- A write of FRAME to an idle block (R166, R167). -/
theorem presentCycle_writeFrame {p : HostPorts} {s : State} {f : Frame} (quiet : p.rst = false) (idle : s.st = .idle)
    (legal : s.result ≠ .invalidFrame) (action : (portsAction p).apply (beginCycle s) = hostWriteFrame f (beginCycle s)) :
    ∃ t, presentCycle p none s = .next t ∧ t.st = .idle ∧ t.result = s.result ∧ t.frame = f := by
  have written : hostWriteFrame f (beginCycle s) = { beginCycle s with frame := f } := if_pos idle
  have cycle := presentCycle_eq (level := none) quiet legal (action.trans written)
  rw [withLine_none, clockEdge, engineStep_idle _ idle] at cycle
  exact ⟨_, cycle, idle, rfl, rfl⟩

/-- LOAD_FRAME on an idle block, two cycles (R89). -/
theorem playProgram_loadFrame {v fuel c : Nat} {rest : List BusForm} {s : State} (fits : v < 2 ^ 40)
    (idle : s.st = .idle) (legal : s.result ≠ .invalidFrame) :
    ∃ t, playProgram [] (fuel + 2) c ((HostForm.loadFrame v).expand ++ rest) s = playProgram [] fuel (c + 2) rest t
      ∧ t.st = .idle ∧ t.result = s.result ∧ t.frame.toNat = v := by
  have upper : portsAction (wrPorts 0x0C#6 (BitVec.ofNat 32 (v / 2 ^ 32))) = .writeFrameHi _ :=
    portsAction_wrPorts 3#4 0#2 _
  have lower : portsAction (wrPorts 0x10#6 (BitVec.ofNat 32 (v % 2 ^ 32))) = .writeFrameLo _ :=
    portsAction_wrPorts 4#4 0#2 _
  obtain ⟨u, first, idle', result, frame⟩ :=
    presentCycle_writeFrame rfl idle legal (congrArg (·.apply (beginCycle s)) upper)
  obtain ⟨t, second, idle'', result', frame'⟩ :=
    presentCycle_writeFrame rfl idle' (result ▸ legal) (congrArg (·.apply (beginCycle u)) lower)
  refine ⟨t, (playProgram_wr first).trans (playProgram_wr second), idle'', result'.trans result, ?_⟩
  rw [frame', beginCycle_frame, frame, beginCycle_frame, frameWithLo_frameWithHi_toNat s.frame fits]

/-- DECODE on an idle block (R140). -/
theorem presentCycle_decode {s : State} (idle : s.st = .idle) (legal : s.result ≠ .invalidFrame) :
    ∃ t, presentCycle (wrPorts 0x00#6 0x3#32) none s = .next t ∧ t.st = .decode ∧ t.result = .none ∧ t.done = false
      ∧ t.frame = s.frame := by
  have action : portsAction (wrPorts 0x00#6 0x3#32) = .decode := portsAction_wrPorts 0#4 0#2 0x3#32
  have accepted : (portsAction (wrPorts 0x00#6 0x3#32)).apply (beginCycle s) = acceptDecode (beginCycle s) := by
    rw [action]
    exact command_idle _ idle
  have cycle := presentCycle_eq (level := none) rfl legal accepted
  rw [withLine_none, clockEdge, engineStep_idle _ idle] at cycle
  exact ⟨_, cycle, rfl, rfl, rfl, rfl⟩

/-- What the decode step leaves for a frame (R141 to R147): the measurement on a match, and CHECKSUM otherwise. -/
def DecodedTo (f : Frame) (t : State) : Prop :=
  t.st = .idle ∧ t.done = true
    ∧ ((checksumOk f = true ∧ t.result = .ok ∧ t.hum = frameHum f ∧ t.tsign = frameTsign f ∧ t.tmag = frameTmag f)
      ∨ (checksumOk f = false ∧ t.result = .checksum))

@[simp] theorem decodeStep_frame (s h : State) : (decodeStep s h).frame = h.frame := by
  rcases decodeStep_cases s h with ⟨_, e⟩ | ⟨_, e⟩ <;> simp [e]

theorem decodedTo_decodeStep (s h : State) : DecodedTo s.frame (decodeStep s h) := by
  rcases decodeStep_cases s h with ⟨matched, e⟩ | ⟨mismatch, e⟩
  · simp [DecodedTo, e, matched]
  · simp [DecodedTo, e, mismatch]

/-- The decode step while the host reads STATUS, which still shows the state at the start of the cycle (R160). -/
theorem presentCycle_readStatus_of_decode {s : State} (decodes : s.st = .decode) (legal : s.result ≠ .invalidFrame) :
    ∃ t, presentCycle (rdPorts 0x04#6) none s = .next t ∧ t.frame = s.frame ∧ t.busRdata = statusWord s
      ∧ DecodedTo s.frame t := by
  have action : (portsAction (rdPorts 0x04#6)).apply (beginCycle s) = (beginCycle s).withBus s.hostIn (statusWord s) :=
    portsAction_rd_apply 0x04#6 0#32 s
  have cycle := presentCycle_eq (level := none) rfl legal action
  refine ⟨_, cycle, ?_, rfl, ?_⟩
  · rw [withLine_none, clockEdge, engineStep_decode _ decodes]
    exact decodeStep_frame s _
  · rw [withLine_none, clockEdge, engineStep_decode _ decodes]
    exact decodedTo_decodeStep s _

/-- Settles O37: the two writes load the frame, DECODE starts the decode step, and the read runs beside it. -/
theorem hostDecodesAnyFrame : Obligations.HostDecodesAnyFrame := by
  intro s v fits idle legal _
  obtain ⟨b, load, idle', result', loaded⟩ := playProgram_loadFrame (fuel := 2) (c := 0)
    (rest := [busWr 0x00 0x3, .rd (BitVec.ofNat 6 0x04)]) fits idle legal
  obtain ⟨d, command, decodes, resultD, doneD, frameD⟩ := presentCycle_decode idle' (result' ▸ legal)
  obtain ⟨t, read, frameT, rdata, idleT, doneT, decoded⟩ :=
    presentCycle_readStatus_of_decode decodes (by simp [resultD])
  rw [← frameD] at loaded
  have sum := checksumOk_iff_toNat d.frame
  have humidity := frameHum_toNat d.frame
  have temperature := frameTemp_toNat d.frame
  rw [loaded] at sum humidity temperature
  have played := load.trans ((playProgram_wr command).trans (playProgram_rd read))
  refine ⟨t, played, idleT, doneT, by rw [frameT, loaded], ?_, by rw [rdata, statusWord_done, doneD], ?_⟩
  · rw [rdata, statusWord_busy, busy, decodes]
    rfl
  rw [← sum]
  rcases decoded with ⟨matched, result, hum, sign, mag⟩ | ⟨mismatch, result⟩
  · exact ⟨by simp [result, matched], .inl result, fun _ => ⟨by rw [hum, humidity], by rw [sign, mag, temperature]⟩⟩
  · exact ⟨by simp [result, mismatch], .inr result, fun ok => by simp [result] at ok⟩

/-! ## What a LINE form states -/

theorem levelAt_of_lt {line : LineStimulus} {c : Nat} (early : c < line.start) : line.levelAt c = none := if_pos early

/-- From its start a stimulus states its levels in order, and the last one where there is none. -/
theorem levelAt_start_add (start : Nat) (segments : List (Bool × Nat)) (i : Nat) :
    LineStimulus.levelAt ⟨start, segments⟩ (start + i)
      = (lineLevels segments)[i]?.or (lineLevels segments).getLast? := by
  simp only [LineStimulus.levelAt]
  rw [if_neg (Nat.not_lt.2 (Nat.le_add_right start i)), Nat.add_sub_cancel_left]
  cases (lineLevels segments)[i]? <;> rfl

theorem lineLevels_cons (level : Bool) (n : Nat) (after : List (Bool × Nat)) :
    lineLevels ((level, n) :: after) = List.replicate n level ++ lineLevels after := rfl

/-- Inside a segment the levels are the segment's. -/
theorem lineLevels_getElem? (before after : List (Bool × Nat)) (level : Bool) {n k : Nat} (inside : k < n) :
    (lineLevels (before ++ (level, n) :: after))[(before.map Prod.snd).sum + k]? = some level := by
  rw [lineLevels_append, ← lineLevels_length, List.getElem?_append_right (Nat.le_add_right _ k), Nat.add_sub_cancel_left,
    lineLevels_cons, List.getElem?_append_left (by simpa using inside), List.getElem?_replicate, if_pos inside]

theorem lineLevels_getElem?_after (before : List (Bool × Nat)) (level : Bool) (n k : Nat) :
    (lineLevels (before ++ [(level, n)]))[(before.map Prod.snd).sum + n + k]? = none := by
  rw [List.getElem?_eq_none_iff, lineLevels_length]
  simp

theorem lineLevels_getLast? (before : List (Bool × Nat)) (level : Bool) {n : Nat} (held : n ≠ 0) :
    (lineLevels (before ++ [(level, n)])).getLast? = some level := by
  have segment : lineLevels [(level, n)] = List.replicate n level := List.append_nil _
  rw [lineLevels_append, segment, List.getLast?_append, List.getLast?_replicate, if_neg held, Option.some_or]

/-! ## The line reaches SYNC -/

/-- A cycle of a program shifts SYNC, `pin_in` being the level stated (R23). -/
theorem presentCycle_sync {p : HostPorts} {s : State} (level : Option Bool) (quiet : p.rst = false)
    (legal : s.result ≠ .invalidFrame) :
    ∃ t, presentCycle p level s = .next t ∧ t.result ≠ .invalidFrame ∧ t.sync1 = s.sync0
      ∧ ∀ b, level = some b → t.sync0 = b := by
  have cycle := presentCycle_eq (level := level) quiet legal rfl
  refine ⟨_, cycle, step_result_legal (by simpa using legal) cycle, ?_, ?_⟩
  · cases level <;> rfl
  · rintro b rfl
    rfl

/-- The level the LINE forms of a program state for a cycle of a WAIT is SYNC[1] two cycles later (R23, R24). -/
theorem playProgram_wait_sync1 {lines : List LineStimulus} {level : Bool} (n : Nat) {c : Nat} {s : State}
    (stated : lineAt lines (c + n) = some level) (legal : s.result ≠ .invalidFrame) :
    ∃ t, playProgram lines (n + 2) c [.wait (n + 2)] s = .next t ∧ t.sync1 = level := by
  induction n generalizing c s with
  | zero =>
    obtain ⟨u, first, legal', _, sampled⟩ := presentCycle_sync (p := idlePorts) (lineAt lines c) rfl legal
    obtain ⟨t, second, _, shifted, _⟩ := presentCycle_sync (p := idlePorts) (lineAt lines (c + 1)) rfl legal'
    rw [playProgram_wait_succ first, playProgram_wait_succ second, playProgram]
    exact ⟨t, rfl, shifted.trans (sampled level stated)⟩
  | succ n ih =>
    obtain ⟨u, first, legal', _, _⟩ := presentCycle_sync (p := idlePorts) (lineAt lines c) rfl legal
    rw [playProgram_wait_succ first]
    exact ih (by rwa [Nat.add_right_comm, Nat.add_assoc]) legal'

/-- Settles O55: by what a LINE form states, and SYNC along a WAIT. -/
theorem lineStimulusDrivesThePin : Obligations.LineStimulusDrivesThePin := by
  refine ⟨fun _ _ => levelAt_of_lt, fun start before after level n k inside => ?_,
    fun start before level n k held => ?_, fun line c level s stated legal => ?_⟩
  · rw [Nat.add_assoc, levelAt_start_add, lineLevels_getElem? before after level inside, Option.some_or]
  · rw [Nat.add_assoc, Nat.add_assoc, levelAt_start_add, ← Nat.add_assoc, lineLevels_getElem?_after, Option.none_or,
      lineLevels_getLast? before level (Nat.ne_of_gt held)]
  · exact playProgram_wait_sync1 c (by rwa [Nat.zero_add, lineAt_single]) legal

end Sys2Proof.Machine
end

section
/-! Cycles that no reset disturbs, and the levels on their way to the sampler (spec/10_state.md R22 to R24). -/

namespace Sys2Proof.Machine

/-! ## The inputs of a cycle are used up -/

theorem engineStep_inputs (s h : State) :
    (engineStep s h).hostIn = h.hostIn ∧ (engineStep s h).lineIn = h.lineIn := by
  rcases engineStep_cases s h with ⟨_, _, _, _, _, e⟩ | ⟨_, _, e⟩ | ⟨_, w, e⟩ | ⟨_, _, e⟩
  · simp only [e, and_self]
  · obtain ⟨_, _, _, _, _, _, e', _⟩ := captureBit_fields s h
    simp only [e, e', and_self]
  · simp only [e, waitTimeout_hostIn, waitTimeout_lineIn, and_self]
  · obtain ⟨_, _, _, _, _, _, e', _⟩ := decodeStep_fields s h
    simp only [e, e', finish_hostIn, finish_lineIn, and_self]

theorem hostHalf_inputs (s : State) : (hostHalf s).hostIn = s.hostIn ∧ (hostHalf s).lineIn = s.lineIn := by
  rcases apply_cases (hostAction s) (beginCycle s) with ⟨_, _, _, e⟩ | ⟨_, _, e⟩ | ⟨_, _, _, _, _, _, _, e, _⟩ <;>
    rw [hostHalf, e] <;> exact ⟨rfl, rfl⟩

theorem step_inputs {s t : State} (e : step s = .next t) : t.hostIn = s.hostIn.tail ∧ t.lineIn = s.lineIn.tail := by
  rcases step_next_cases e with ⟨_, rfl⟩ | ⟨_, rfl⟩
  · exact ⟨rfl, rfl⟩
  · obtain ⟨ports, levels⟩ := engineStep_inputs s (hostHalf s)
    obtain ⟨ports', levels'⟩ := hostHalf_inputs s
    exact ⟨congrArg List.tail (ports.trans ports'), congrArg List.tail (levels.trans levels')⟩

/-! ## Cycles without reset -/

/-- The next `n` cycles have `rst` = 0, and the state is not one that is refused (R219). -/
structure Undisturbed (n : Nat) (s : State) : Prop where
  noReset : NoReset n s
  legal : s.result ≠ .invalidFrame

theorem Undisturbed.mono {m n : Nat} {s : State} (quiet : Undisturbed n s) (le : m ≤ n) : Undisturbed m s :=
  ⟨fun p mem => quiet.noReset p (List.take_subset_take_left _ le mem), quiet.legal⟩

theorem Undisturbed.runs {n : Nat} {s : State} (quiet : Undisturbed (n + 1) s) : Runs s := by
  refine ⟨?_, quiet.legal⟩
  cases listed : s.hostIn with
  | nil => rw [ports_nil listed, idlePorts]
  | cons p ps => rw [ports_cons listed]; exact quiet.noReset p (by simp [listed])

theorem Undisturbed.of_step {n : Nat} {s t : State} (quiet : Undisturbed (n + 1) s) (e : step s = .next t) :
    Undisturbed n t := by
  refine ⟨fun p mem => quiet.noReset p ?_, step_result_legal quiet.legal e⟩
  rw [(step_inputs e).1] at mem
  cases listed : s.hostIn with
  | nil => simp [listed] at mem
  | cons q ps =>
    rw [listed, List.tail_cons] at mem
    exact List.mem_cons_of_mem q mem

theorem Undisturbed.step {n : Nat} {s : State} (quiet : Undisturbed (n + 1) s) :
    ∃ t, step s = .next t ∧ Undisturbed n t :=
  have e := step_eq_clockEdge quiet.runs
  ⟨_, e, quiet.of_step e⟩

/-! ## The levels ahead -/

/-- The samples of the next cycles, this one's first, are these levels: SYNC[1], SYNC[0] and then the line (R23, R24); and
no reset comes in these cycles. -/
structure Ahead (levels : List Bool) (s : State) : Prop where
  quiet : Undisturbed levels.length s
  line : levels <+: s.sync1 :: s.sync0 :: s.lineIn

theorem ahead_of_line {n : Nat} {levels rest : List Bool} {s : State} (known : s.result ≠ .invalidFrame)
    (noReset : NoReset n s) (length : levels.length = n)
    (line : s.sync1 :: s.sync0 :: s.lineIn = levels ++ rest) : Ahead levels s :=
  ⟨⟨length ▸ noReset, known⟩, rest, line.symm⟩

theorem Ahead.sync1 {x : Bool} {levels : List Bool} {s : State} (ahead : Ahead (x :: levels) s) : s.sync1 = x :=
  (List.cons_prefix_cons.1 ahead.line).1.symm

/-- The levels still listed are `pin_in` of this cycle and of those after it. -/
theorem lineIn_prefix (s : State) : s.lineIn <+: s.pinIn :: s.lineIn.tail := by
  cases listed : s.lineIn with
  | nil => exact List.nil_prefix
  | cons b bs => rw [pinIn_cons listed]; exact List.prefix_rfl

theorem Ahead.of_step {x : Bool} {levels : List Bool} {s t : State} (ahead : Ahead (x :: levels) s)
    (e : step s = .next t) : Ahead levels t := by
  refine ⟨ahead.quiet.of_step e, ?_⟩
  have shifted : levels <+: s.sync0 :: s.pinIn :: s.lineIn.tail :=
    (List.cons_prefix_cons.1 ahead.line).2.trans (List.cons_prefix_cons.2 ⟨rfl, lineIn_prefix s⟩)
  have line := (step_inputs e).2
  obtain rfl := step_next_running ahead.quiet.runs.1 e
  rwa [clockEdge_sync1, clockEdge_sync0, line]

theorem Ahead.step {x : Bool} {levels : List Bool} {s : State} (ahead : Ahead (x :: levels) s) :
    ∃ t, step s = .next t ∧ Ahead levels t :=
  have ⟨t, e, _⟩ := ahead.quiet.step
  ⟨t, e, ahead.of_step e⟩

end Sys2Proof.Machine
end

section
/-! One cycle of the trigger and of an edge wait (spec/40_acquisition.md R102 to R117), said once. -/

namespace Sys2Proof.Machine

/-! ## What no such cycle touches -/

/-- The parameters, the mode, the pacing, the measurement and the sums are the same. -/
structure Kept (s t : State) : Prop where
  params : t.params = s.params
  modeB : t.modeB = s.modeB
  paceL : t.paceL = s.paceL
  hum : t.hum = s.hum
  tsign : t.tsign = s.tsign
  tmag : t.tmag = s.tmag
  rxsum : t.rxsum = s.rxsum
  calcsum : t.calcsum = s.calcsum

/-- SHIFT, FRAME and BITCNT are the same. -/
structure NoCapture (s t : State) : Prop where
  shift : t.shift = s.shift
  frame : t.frame = s.frame
  bitcnt : t.bitcnt = s.bitcnt

theorem Kept.refl (s : State) : Kept s s := ⟨rfl, rfl, rfl, rfl, rfl, rfl, rfl, rfl⟩

theorem Kept.trans {s t u : State} (first : Kept s t) (second : Kept t u) : Kept s u where
  params := second.params.trans first.params
  modeB := second.modeB.trans first.modeB
  paceL := second.paceL.trans first.paceL
  hum := second.hum.trans first.hum
  tsign := second.tsign.trans first.tsign
  tmag := second.tmag.trans first.tmag
  rxsum := second.rxsum.trans first.rxsum
  calcsum := second.calcsum.trans first.calcsum

theorem NoCapture.refl (s : State) : NoCapture s s := ⟨rfl, rfl, rfl⟩

theorem NoCapture.trans {s t u : State} (first : NoCapture s t) (second : NoCapture t u) : NoCapture s u where
  shift := second.shift.trans first.shift
  frame := second.frame.trans first.frame
  bitcnt := second.bitcnt.trans first.bitcnt

theorem kept_of_hostSide {s h : State} (side : HostSide s h) : Kept s h := by
  rw [side]
  exact ⟨rfl, rfl, rfl, rfl, rfl, rfl, rfl, rfl⟩

theorem noCapture_of_hostSide {s h : State} (side : HostSide s h) : NoCapture s h := by
  rw [side]
  exact ⟨rfl, rfl, rfl⟩

theorem engineStep_kept {s : State} (h : State) (other : s.st ≠ .decode) : Kept h (engineStep s h) := by
  rcases engineStep_cases s h with ⟨_, _, _, _, _, e⟩ | ⟨_, _, e⟩ | ⟨_, w, e⟩ | ⟨_, decodes, _⟩
  · rw [e]
    exact ⟨rfl, rfl, rfl, rfl, rfl, rfl, rfl, rfl⟩
  · obtain ⟨_, _, _, _, _, _, e', _⟩ := captureBit_fields s h
    rw [e, e']
    exact ⟨rfl, rfl, rfl, rfl, rfl, rfl, rfl, rfl⟩
  · rw [e]
    exact ⟨rfl, rfl, rfl, rfl, rfl, rfl, rfl, rfl⟩
  · exact absurd decodes other

/-- A cycle of a running operation: the engine's rule, over a state that is the same but for the host's side. -/
theorem step_busy {s t : State} (run : Runs s) (running : s.st ≠ .idle) (e : step s = .next t) :
    ∃ h, HostSide s h ∧ t = clockEdge s h :=
  ⟨hostHalf s, hostSide_of_hostEffect (hostEffect_iff.2 rfl) running, step_next_running run.1 e⟩

/-- Outside IDLE and the decode step a cycle keeps the mode and the measurement. -/
theorem step_kept {s t : State} (run : Runs s) (running : s.st ≠ .idle) (other : s.st ≠ .decode)
    (e : step s = .next t) : Kept s t := by
  obtain ⟨h, side, rfl⟩ := step_busy run running e
  exact { (kept_of_hostSide side).trans (engineStep_kept h other) with }

/-! ## The cycles of an edge wait -/

/-- The first cycle of a wait, as `enter_wait` leaves it (R108). -/
structure StartsWait (w : EdgeWait) (s : State) : Prop where
  st : s.st = .wait w
  tcnt : s.tcnt = 0
  arm : s.arm = false
  pcnt : s.pcnt = 0

/-- The wait that the edge of a wait starts; for BIT_F the one that follows unless the fortieth bit is complete
(R113, R114, R117). -/
def nextWait : EdgeWait → EdgeWait
  | .preF1 => .preR
  | .preR => .preF2
  | .preF2 => .bitR
  | .bitR => .bitF
  | .bitF => .bitR

/-- A bit is appended; the fortieth completes FRAME and starts the decode step, an earlier one the next slot (R117). -/
structure Captures (b : Bool) (s t : State) : Prop where
  shift : t.shift = shiftedIn s.shift b
  bitcnt : t.bitcnt = s.bitcnt + 1#6
  last : s.bitcnt.toNat + 1 = 40 → t.frame = t.shift ∧ t.st = .decode
  more : s.bitcnt.toNat + 1 ≠ 40 → t.frame = s.frame ∧ StartsWait .bitR t

/-- The operation has ended in the timeout of a wait (R112, R201). -/
structure TimedOut (w : EdgeWait) (t : State) : Prop where
  st : t.st = .idle
  toState : t.toState = some w
  result : t.result = .timeout
  done : t.done = true

/-- The wait goes on: TCNT and PCNT count, and ARM is set by a sample of the level opposite to the target (R109). -/
structure WaitsOn (w : EdgeWait) (s t : State) : Prop where
  st : t.st = .wait w
  tcnt : t.tcnt = tcntNext s.params s.tcnt
  arm : t.arm = true ↔ s.arm = true ∨ (samples w s = true ∧ s.sync1 ≠ targetLevel w)
  pcnt : t.pcnt = if paced w s then (if s.pcnt = 0 then paceCycles s.params - 1 else s.pcnt - 1) else s.pcnt

/-- The four ways a cycle of an edge wait can go (R109). -/
inductive WaitCycle (w : EdgeWait) (s t : State) : Prop where
  | passed (edge : completes w s = true) (other : w ≠ .bitF) (next : StartsWait (nextWait w) t) (same : NoCapture s t)
  | captured (edge : completes w s = true) (pulse : w = .bitF) (bit : Captures (classifiedBit s) s t)
  | expired (noEdge : completes w s = false) (late : timesOut s = true) (ended : TimedOut w t) (same : NoCapture s t)
  | continued (noEdge : completes w s = false) (inTime : timesOut s = false) (waits : WaitsOn w s t)
      (same : NoCapture s t)

theorem captures_captureBit {s h : State} (same : NoCapture s h) : Captures (classifiedBit s) s (captureBit s h) := by
  rcases captureBit_cases s h with ⟨last, e⟩ | ⟨more, e⟩ <;> rw [e]
  · exact ⟨rfl, rfl, fun _ => ⟨rfl, rfl⟩, absurd last⟩
  · exact ⟨rfl, rfl, fun last => absurd last more, fun _ => ⟨same.frame, rfl, rfl, rfl, rfl⟩⟩

theorem waitComplete_of_ne_bitF {w : EdgeWait} (s h : State) (other : w ≠ .bitF) :
    waitComplete w s h = enterWait (nextWait w) h := by
  cases w with
  | bitF => exact absurd rfl other
  | _ => rfl

theorem armsNow_iff (w : EdgeWait) (s : State) :
    armsNow w s = true ↔ samples w s = true ∧ s.arm = false ∧ s.sync1 ≠ targetLevel w := by
  simp [armsNow, and_assoc]

theorem waitsOn_waitContinue {w : EdgeWait} {s h : State} (st : h.st = .wait w) : WaitsOn w s (waitContinue w s h) := by
  refine ⟨st, rfl, ?_, rfl⟩
  cases armed : s.arm <;> simp [armsNow_iff, armed]

theorem waitCycle_edgeWaitStep {w : EdgeWait} {s h : State} (hs : s.st = .wait w) (side : HostSide s h) :
    WaitCycle w s (edgeWaitStep w s h) := by
  have same := noCapture_of_hostSide side
  rcases edgeWaitStep_cases w s h with ⟨edge, e⟩ | ⟨noEdge, late, e⟩ | ⟨noEdge, inTime, e⟩ <;> rw [e]
  · by_cases pulse : w = .bitF
    · subst pulse
      exact .captured edge rfl (captures_captureBit same)
    · rw [waitComplete_of_ne_bitF s h pulse]
      exact .passed edge pulse ⟨rfl, rfl, rfl, rfl⟩ { same with }
  · exact .expired noEdge late ⟨rfl, rfl, rfl, rfl⟩ { same with }
  · exact .continued noEdge inTime (waitsOn_waitContinue ((hostSide_st side).trans hs)) { same with }

/-- The end of a cycle leaves what an edge wait writes. -/
theorem waitCycle_clockEdge {w : EdgeWait} {s h : State} (hs : s.st = .wait w)
    (cycle : WaitCycle w s (edgeWaitStep w s h)) : WaitCycle w s (clockEdge s h) := by
  rw [← engineStep_wait h hs] at cycle
  cases cycle with
  | passed edge other next same => exact .passed edge other { next with } { same with }
  | captured edge pulse bit =>
    exact .captured edge pulse ⟨bit.shift, bit.bitcnt, bit.last, fun more => ⟨(bit.more more).1, { (bit.more more).2 with }⟩⟩
  | expired noEdge late ended same => exact .expired noEdge late { ended with } { same with }
  | continued noEdge inTime waits same => exact .continued noEdge inTime { waits with } { same with }

/-- A cycle of an edge wait, whatever the host does. -/
theorem step_wait {w : EdgeWait} {s t : State} (run : Runs s) (hs : s.st = .wait w) (e : step s = .next t) :
    WaitCycle w s t ∧ Kept s t := by
  refine ⟨?_, step_kept run (by simp [hs]) (by simp [hs]) e⟩
  obtain ⟨h, side, rfl⟩ := step_busy run (by simp [hs]) e
  exact waitCycle_clockEdge hs (waitCycle_edgeWaitStep hs side)

end Sys2Proof.Machine
end

section
/-! The statements about one cycle of the trigger and of an edge wait (spec/40_acquisition.md R102 to R117). -/

namespace Sys2Proof.Machine

/-! ## The ways of a cycle, by what the wait sees -/

section
variable {w : EdgeWait} {s t : State}

theorem WaitCycle.passes (cycle : WaitCycle w s t) (edge : completes w s = true) (other : w ≠ .bitF) :
    StartsWait (nextWait w) t ∧ NoCapture s t := by
  cases cycle with
  | passed _ _ next same => exact ⟨next, same⟩
  | captured _ pulse => exact absurd pulse other
  | expired noEdge | continued noEdge => simp [edge] at noEdge

theorem WaitCycle.captures (cycle : WaitCycle .bitF s t) (edge : completes .bitF s = true) :
    Captures (classifiedBit s) s t := by
  cases cycle with
  | passed _ other => exact absurd rfl other
  | captured _ _ bit => exact bit
  | expired noEdge | continued noEdge => simp [edge] at noEdge

theorem WaitCycle.expires (cycle : WaitCycle w s t) (noEdge : completes w s = false) (late : timesOut s = true) :
    TimedOut w t ∧ NoCapture s t := by
  cases cycle with
  | passed edge | captured edge => simp [edge] at noEdge
  | expired _ _ ended same => exact ⟨ended, same⟩
  | continued _ inTime => simp [late] at inTime

theorem WaitCycle.continues (cycle : WaitCycle w s t) (noEdge : completes w s = false) (inTime : timesOut s = false) :
    WaitsOn w s t ∧ NoCapture s t := by
  cases cycle with
  | passed edge | captured edge => simp [edge] at noEdge
  | expired _ late => simp [inTime] at late
  | continued _ _ waits same => exact ⟨waits, same⟩

theorem WaitCycle.noCapture (cycle : WaitCycle w s t) (other : ¬ (completes w s = true ∧ w = .bitF)) : NoCapture s t := by
  cases cycle with
  | captured edge pulse => exact absurd ⟨edge, pulse⟩ other
  | passed _ _ _ same | expired _ _ _ same | continued _ _ _ same => exact same

/-- A captured bit leads to the decode step or to the next slot. -/
theorem Captures.st_eq {b : Bool} (bit : Captures b s t) :
    t.st = if s.bitcnt.toNat + 1 = 40 then .decode else .wait .bitR := by
  split
  · exact (bit.last ‹_›).2
  · exact (bit.more ‹_›).2.st

/-- The edge of a wait starts the next one, except that the fortieth bit starts the decode step. -/
theorem WaitCycle.startsNext (cycle : WaitCycle w s t) (edge : completes w s = true) (other : t.st ≠ .decode) :
    StartsWait (nextWait w) t := by
  by_cases pulse : w = .bitF
  · subst pulse
    exact ((cycle.captures edge).more fun last => other ((cycle.captures edge).last last).2).2
  · exact (cycle.passes edge pulse).1

/-- Only the timeout ends the operation in a wait. -/
theorem WaitCycle.busy (cycle : WaitCycle w s t) (goesOn : completes w s = true ∨ timesOut s = false) : t.st ≠ .idle := by
  cases cycle with
  | passed _ _ next => simp [next.st]
  | captured _ _ bit => rw [bit.st_eq]; split <;> simp
  | expired noEdge late => simp [noEdge, late] at goesOn
  | continued _ _ waits => simp [waits.st]

end

/-- A cycle without reset that answers next is one that runs. -/
theorem runs_of_step {s t : State} (running : s.ports.rst = false) (e : step s = .next t) : Runs s := by
  rcases step_next_cases e with ⟨reset, _⟩ | ⟨run, _⟩
  · simp [running] at reset
  · exact run

theorem paced_iff (w : EdgeWait) (s : State) :
    paced w s = true ↔ targetLevel w = false ∧ s.modeB = false ∧ s.paceL = true ∧ s.arm = false := by
  simp [paced, and_assoc]

theorem samples_iff (w : EdgeWait) (s : State) : samples w s = true ↔ ¬ paced w s = true ∨ s.pcnt = 0 := by
  simp [samples]

theorem targetLevel_iff (w : EdgeWait) : targetLevel w = true ↔ w = .preR ∨ w = .bitR := by
  cases w <;> simp [targetLevel]

theorem completes_eq_false_iff (w : EdgeWait) (s : State) :
    completes w s = false ↔ ¬ (s.arm = true ∧ s.sync1 = targetLevel w) := by
  rw [← completes_iff, Bool.not_eq_true]

theorem timesOut_eq_false_iff (s : State) :
    timesOut s = false ↔ ¬ (s.modeB = true ∧ 100 * s.params.cyclesPerUs < s.tcnt) := by
  rw [← timeoutCycles, ← timesOut_iff, Bool.not_eq_true]

/-! ## The statements about a wait -/

/-- Settles O23: the four ways a cycle of a wait can go, by the statement's own `paced`, `sample` and `complete`. -/
theorem edgeWaitStepAsWritten : Obligations.EdgeWaitStepAsWritten := by
  intro s w level run hs target pacing sample complete pacing_iff sample_iff complete_iff
  obtain rfl : level = targetLevel w := Bool.eq_iff_iff.2 (target.trans (targetLevel_iff w).symm)
  rw [← paced_iff] at pacing_iff
  rw [pacing_iff, ← samples_iff] at sample_iff
  have completed : complete ↔ completes w s = true := by simp [complete_iff, sample_iff, completes, and_assoc]
  simp only [pacing_iff, sample_iff, completed]
  have e := step_eq_clockEdge run
  obtain ⟨cycle, kept⟩ := step_wait run hs e
  refine ⟨_, e, fun edge => ?_, fun noEdge bounded late => ?_, fun noEdge inTime => ?_, fun other => ?_,
    kept.modeB, kept.paceL, kept.hum, kept.tsign, kept.tmag, kept.rxsum, kept.calcsum⟩
  · have starts : ∀ u, u ≠ .bitF → w = u → (clockEdge s (hostHalf s)).st = .wait (nextWait u) := by
      rintro _ other rfl
      exact (cycle.passes edge other).1.st
    refine ⟨starts _ nofun, starts _ nofun, starts _ nofun, starts _ nofun, ?_, fun other => ?_⟩
    · rintro rfl
      exact (cycle.captures edge).st_eq
    · obtain ⟨_, tcnt, arm, pcnt⟩ := cycle.startsNext edge other
      exact ⟨tcnt, arm, pcnt⟩
  · obtain ⟨⟨st, toState, result, done⟩, _⟩ :=
      cycle.expires (Bool.eq_false_iff.2 noEdge) ((timesOut_iff s).2 ⟨bounded, late⟩)
    exact ⟨st, toState, result, done⟩
  · obtain ⟨⟨st, tcnt, arm, pcnt⟩, _⟩ :=
      cycle.continues (Bool.eq_false_iff.2 noEdge) ((timesOut_eq_false_iff s).2 inTime)
    exact ⟨st, tcnt, arm, fun paces => by rw [pcnt, if_pos paces]; rfl, fun free => by rw [pcnt, if_neg free]⟩
  · obtain ⟨shift, frame, bitcnt⟩ := cycle.noCapture other
    exact ⟨shift, bitcnt, frame⟩

/-- Settles O24: of the four ways of a cycle only an edge leaves the wait for another state than IDLE, and it starts the
next wait unarmed. -/
theorem aWaitNeedsAnEdge : Obligations.AWaitNeedsAnEdge := by
  intro s t w running hs e
  obtain ⟨cycle, _⟩ := step_wait (runs_of_step running e) hs e
  by_cases edge : completes w s = true
  · have armed := (completes_iff w s).1 edge
    have unarmed : ∀ v, t.st = .wait v → t.arm = false := fun v st => (cycle.startsNext edge (by simp [st])).arm
    exact ⟨fun _ _ => armed, fun _ _ => .inl armed.1, fun v st _ => unarmed v st⟩
  · have noEdge := Bool.eq_false_iff.2 edge
    cases late : timesOut s with
    | true =>
      have ended := (cycle.expires noEdge late).1.st
      simp [ended]
    | false =>
      obtain ⟨st, _, arm, _⟩ := (cycle.continues noEdge late).1
      refine ⟨fun left => absurd st left, fun _ set => (arm.1 set).imp_right And.right, fun v other differs => ?_⟩
      exact absurd (EngineState.wait.inj (other.symm.trans st)) differs

/-- Settles O25: the cycle is the timeout exactly when there is no edge and the bound is past. -/
theorem timeoutIsStrictAndCompletionWins : Obligations.TimeoutIsStrictAndCompletionWins := by
  intro s w run hs
  have e := step_eq_clockEdge run
  obtain ⟨cycle, kept⟩ := step_wait run hs e
  refine ⟨_, e, fun edge => cycle.busy (.inl ((completes_iff w s).2 edge)),
    fun unbounded => cycle.busy (.inr ((timesOut_eq_false_iff s).2 (by simp [unbounded]))),
    fun early => cycle.busy (.inr ((timesOut_eq_false_iff s).2 (by omega))), fun noEdge bounded late => ?_⟩
  obtain ⟨⟨st, toState, result, done⟩, same⟩ :=
    cycle.expires ((completes_eq_false_iff w s).2 noEdge) ((timesOut_iff s).2 ⟨bounded, late⟩)
  exact ⟨toState, result, done, st, same.frame, kept.hum, kept.tsign, kept.tmag, kept.rxsum, kept.calcsum, same.bitcnt⟩

theorem classifiedBit_eq (s : State) : classifiedBit s = decide (50 * s.params.cyclesPerUs < s.tcnt + 1) :=
  decide_eq_decide.2 Nat.lt_succ_iff.symm

theorem shiftedIn_decide_toNat (f : Frame) (p : Prop) [Decidable p] :
    (shiftedIn f (decide p)).toNat = (2 * f.toNat + if p then 1 else 0) % 2 ^ 40 := by
  by_cases holds : p <;> simp [shiftedIn_toNat, holds]

/-- Settles O26: the cycle of BIT_F's edge captures the classified bit. -/
theorem captureAppendsTheClassifiedBit : Obligations.CaptureAppendsTheClassifiedBit := by
  intro s run hs armed low
  have e := step_eq_clockEdge run
  obtain ⟨shift, bitcnt, last, more⟩ := (step_wait run hs e).1.captures ((completes_iff .bitF s).2 ⟨armed, low⟩)
  refine ⟨_, e, ?_, ?_, last, fun early => ?_⟩
  · rw [shift, classifiedBit_eq, shiftedIn_decide_toNat]
  · rw [bitcnt, BitVec.toNat_add]
    rfl
  · obtain ⟨frame, st, tcnt, arm, pcnt⟩ := more early
    exact ⟨frame, st, tcnt, arm, pcnt⟩

/-! ## The trigger's states -/

section
variable {s t : State}

theorem step_trigH0 (run : Runs s) (hs : s.st = .trigH0) (e : step s = .next t) : t.st = .trigOe := by
  obtain ⟨h, _, rfl⟩ := step_busy run (by simp [hs]) e
  rw [clockEdge_st, engineStep_trigH0 h hs, trigH0Step_st]

theorem step_trigOe (run : Runs s) (hs : s.st = .trigOe) (e : step s = .next t) : t.st = .trigLow ∧ t.tcnt = 0 := by
  obtain ⟨h, _, rfl⟩ := step_busy run (by simp [hs]) e
  have engine := engineStep_trigOe h hs
  exact ⟨congrArg State.st engine, congrArg State.tcnt engine⟩

theorem step_trigLow (run : Runs s) (hs : s.st = .trigLow) (e : step s = .next t) :
    (s.tcnt = trigCycles s.params - 1 ∧ t.st = .trigH1)
      ∨ (s.tcnt ≠ trigCycles s.params - 1 ∧ t.st = .trigLow ∧ t.tcnt = tcntNext s.params s.tcnt) := by
  obtain ⟨h, side, rfl⟩ := step_busy run (by simp [hs]) e
  have engine := engineStep_trigLow h hs
  rcases trigLowStep_cases s h with ⟨done, e'⟩ | ⟨more, e'⟩ <;> rw [e'] at engine
  · exact .inl ⟨done, congrArg State.st engine⟩
  · exact .inr ⟨more, (congrArg State.st engine).trans ((hostSide_st side).trans hs), congrArg State.tcnt engine⟩

theorem step_trigH1 (run : Runs s) (hs : s.st = .trigH1) (e : step s = .next t) : StartsWait .preF1 t := by
  obtain ⟨h, _, rfl⟩ := step_busy run (by simp [hs]) e
  have engine := engineStep_trigH1 h hs
  exact ⟨congrArg State.st engine, congrArg State.tcnt engine, congrArg State.arm engine, congrArg State.pcnt engine⟩

end

/-- Settles O21: one cycle of each of the three states. -/
theorem triggerStatesTakeOneCycle : Obligations.TriggerStatesTakeOneCycle := by
  intro s run
  have e := step_eq_clockEdge run
  refine ⟨fun hs => ⟨?_, ?_, _, e, step_trigH0 run hs e⟩, fun hs => ⟨?_, ?_, _, e, step_trigOe run hs e⟩, fun hs => ?_⟩
  · simp [pinOe, hs]
  · simp [pinOut, hs]
  · simp [pinOe, hs]
  · simp [pinOut, hs]
  · obtain ⟨st, tcnt, arm, pcnt⟩ := step_trigH1 run hs e
    exact ⟨by simp [pinOe, hs], by simp [pinOut, hs], _, e, st, tcnt, arm, pcnt, by rw [pinOe, st]⟩

end Sys2Proof.Machine
end

section
/-! The trigger, cycle by cycle from the acceptance of an acquisition (spec/40_acquisition.md R100 to R106). -/

namespace Sys2Proof.Machine

/-! ## Runs without reset -/

/-- A run and one cycle more. -/
theorem runFor_step {n : Nat} {s t u : State} (run : runFor n s = .next t) (e : step t = .next u) :
    runFor (n + 1) s = .next u :=
  (runFor_add run).trans (runFor_succ e)

theorem Undisturbed.of_runFor {m n : Nat} {s t : State} (quiet : Undisturbed (m + n) s) (run : runFor m s = .next t) :
    Undisturbed n t := by
  induction m generalizing s with
  | zero =>
    cases run
    exact quiet.mono (Nat.le_add_left n 0)
  | succ m ih =>
    obtain ⟨u, e, rest⟩ := runFor_succ_next run
    exact ih ((quiet.mono (by omega : m + n + 1 ≤ m + 1 + n)).of_step e) rest

/-- Outside BIT_F a cycle of a running operation captures nothing. -/
theorem step_noCapture {s t : State} (run : Runs s) (running : s.st ≠ .idle) (other : s.st ≠ .wait .bitF)
    (e : step s = .next t) : NoCapture s t := by
  obtain ⟨h, side, rfl⟩ := step_busy run running e
  rcases engineStep_capture s h with ⟨frame, bitcnt, shift⟩ | ⟨bitF, _⟩
  · exact (noCapture_of_hostSide side).trans ⟨shift, frame, bitcnt⟩
  · exact absurd bitF other

/-! ## The states of the trigger -/

/-- The state in cycle `c` after acceptance in cycle 0: the trigger, and then the first cycle of PRE_F1 (R106). -/
inductive TriggerCycle (c : Nat) (s : State) : Prop where
  | driveHigh (first : c = 1) (st : s.st = .trigH0)
  | output (second : c = 2) (st : s.st = .trigOe)
  | driveLow (counted : c = s.tcnt + 3) (below : s.tcnt < trigCycles s.params) (st : s.st = .trigLow)
  | highAgain (past : c = trigCycles s.params + 3) (st : s.st = .trigH1)
  | released (past : c = trigCycles s.params + 4) (starts : StartsWait .preF1 s)

theorem TriggerCycle.running {c : Nat} {s : State} (trigger : TriggerCycle c s) :
    s.st ≠ .idle ∧ s.st ≠ .decode ∧ s.st ≠ .wait .bitF := by
  cases trigger with
  | driveHigh _ st | output _ st | driveLow _ _ st | highAgain _ st => simp [st]
  | released _ starts => simp [starts.st]

/-- The pins in the cycles of the trigger (R43, R106). -/
theorem TriggerCycle.pins {c : Nat} {s : State} (trigger : TriggerCycle c s) :
    (pinOe s = true ↔ 2 ≤ c ∧ c ≤ trigCycles s.params + 3)
      ∧ (pinOut s = true ↔ c = 1 ∨ c = 2 ∨ c = trigCycles s.params + 3) := by
  unfold pinOe pinOut
  cases trigger with
  | driveHigh first st => simp [st, first]
  | output second st => simp [st, second]
  | driveLow counted below st => simp only [st, Bool.false_eq_true, false_iff, true_iff]; omega
  | highAgain past st => simp [st, past]
  | released past starts => simp only [starts.st, Bool.false_eq_true, false_iff]; omega

/-- The trigger ends in the first cycle of PRE_F1. -/
theorem TriggerCycle.starts {c : Nat} {s : State} (trigger : TriggerCycle c s) (ends : c = trigCycles s.params + 4) :
    StartsWait .preF1 s := by
  cases trigger with
  | released _ starts => exact starts
  | driveHigh | output | driveLow | highAgain => omega

/-- One cycle of the trigger. -/
theorem TriggerCycle.step {c : Nat} {s t : State} (trigger : TriggerCycle c s) (legal : legalParams s.params = true)
    (run : Runs s) (early : c < trigCycles s.params + 4) (e : Machine.step s = .next t) : TriggerCycle (c + 1) t := by
  obtain ⟨atLeastOne, _, fits, _⟩ := (legalParams_iff _).1 legal
  have params : t.params = s.params := step_params e
  have lasts : 0 < trigCycles s.params := Nat.mul_pos (by decide) atLeastOne
  cases trigger with
  | driveHigh first st => exact .output (by omega) (step_trigH0 run st e)
  | output second st =>
    obtain ⟨low, zero⟩ := step_trigOe run st e
    exact .driveLow (by omega) (by rwa [params, zero]) low
  | driveLow counted below st =>
    rcases step_trigLow run st e with ⟨last, high⟩ | ⟨more, low, count⟩
    · exact .highAgain (by rw [params]; omega) high
    · rw [tcntNext_of_lt (by omega)] at count
      exact .driveLow (by omega) (by rw [params]; omega) low
  | highAgain past st => exact .released (by rw [params]; omega) (step_trigH1 run st e)
  | released past _ => omega

/-! ## The run of the trigger -/

/-- The acceptance of an acquisition (R100, R101). -/
theorem step_acquire {s t : State} {bounded : Bool} (run : Runs s) (idle : s.st = .idle)
    (action : hostAction s = .acquire bounded) (e : step s = .next t) :
    t.st = .trigH0 ∧ t.modeB = bounded ∧ t.bitcnt = 0#6 := by
  have accepted : hostHalf s = acceptAcquisition bounded (beginCycle s) := by
    rw [hostHalf, action]
    exact command_idle _ idle
  obtain rfl := step_next_running run.1 e
  rw [clockEdge_st, clockEdge_modeB, clockEdge_bitcnt, engineStep_idle _ idle, accepted]
  exact ⟨rfl, rfl, rfl⟩

/-- From the acceptance of an acquisition to the first cycle of PRE_F1. -/
theorem runFor_trigger {s : State} {bounded : Bool} (legal : legalParams s.params = true) (idle : s.st = .idle)
    (action : hostAction s = .acquire bounded) (quiet : Undisturbed (trigCycles s.params + 4) s) {c : Nat} (first : 1 ≤ c)
    (last : c ≤ trigCycles s.params + 4) :
    ∃ t, runFor c s = .next t ∧ TriggerCycle c t ∧ t.params = s.params ∧ t.modeB = bounded ∧ t.bitcnt = 0#6 := by
  induction c with
  | zero => exact absurd first (Nat.not_succ_le_zero 0)
  | succ c ih =>
    by_cases accepting : c = 0
    · subst accepting
      obtain ⟨t, e, _⟩ := quiet.step
      obtain ⟨st, mode, bitcnt⟩ := step_acquire quiet.runs idle action e
      exact ⟨t, runFor_succ e, .driveHigh rfl st, step_params e, mode, bitcnt⟩
    · obtain ⟨t, run, trigger, params, mode, bitcnt⟩ := ih (by omega) (by omega)
      have quiet' : Undisturbed 1 t := (quiet.mono last).of_runFor run
      obtain ⟨u, e, _⟩ := quiet'.step
      obtain ⟨running, notDecode, notBitF⟩ := trigger.running
      have kept := step_kept quiet'.runs running notDecode e
      have same := step_noCapture quiet'.runs running notBitF e
      exact ⟨u, runFor_step run e, trigger.step (params ▸ legal) quiet'.runs (by rw [params]; omega) e,
        kept.params.trans params, kept.modeB.trans mode, same.bitcnt.trans bitcnt⟩

/-- Settles O22: the pins in each cycle of the run of the trigger. -/
theorem triggerWaveform : Obligations.TriggerWaveform := by
  intro s lo ign legal run idle presents noReset c first last
  obtain ⟨bounded, action⟩ : ∃ bounded, hostAction s = .acquire bounded := by
    rcases presents with p | p
    · exact ⟨true, hostAction_of_presents rfl p⟩
    · exact ⟨false, hostAction_of_presents rfl p⟩
  obtain ⟨t, runs, trigger, params, _⟩ := runFor_trigger legal idle action ⟨noReset, run.2⟩ first last
  obtain ⟨drives, level⟩ := trigger.pins
  rw [params] at drives level
  refine ⟨t, runs, drives, level, fun ends => ?_⟩
  obtain ⟨st, tcnt, arm, _⟩ := trigger.starts (by rw [params]; exact ends)
  exact ⟨st, tcnt, arm⟩

end Sys2Proof.Machine
end

section
/-! An edge wait over a given line (spec/40_acquisition.md R107 to R120): levels that leave it waiting, and the edge that
ends it. -/

namespace Sys2Proof.Machine

/-! ## When a paced wait samples -/

/-- The cycle `k` from this one on is a sample, if the wait is still unarmed then (R111). -/
def SampleDue (k : Nat) (w : EdgeWait) (s : State) : Prop :=
  paced w s = true → ∃ m, k = s.pcnt + m * paceCycles s.params

theorem SampleDue.samples {w : EdgeWait} {s : State} (due : SampleDue 0 w s) : samples w s = true := by
  rw [samples_iff]
  by_cases paces : paced w s = true
  · obtain ⟨m, zero⟩ := due paces
    exact .inr (by omega)
  · exact .inl paces

theorem sampleDue_of_rising {w : EdgeWait} {s : State} (k : Nat) (rising : targetLevel w = true) : SampleDue k w s :=
  fun paces => by simp [paced, rising] at paces

theorem StartsWait.sampleDue {w : EdgeWait} {s : State} (starts : StartsWait w s) (m : Nat) :
    SampleDue (m * paceCycles s.params) w s :=
  fun _ => ⟨m, by rw [starts.pcnt, Nat.zero_add]⟩

theorem StartsWait.sampleDue_zero {w : EdgeWait} {s : State} (starts : StartsWait w s) : SampleDue 0 w s :=
  Nat.zero_mul (paceCycles s.params) ▸ starts.sampleDue 0

/-- A cycle of waiting brings every sample one cycle nearer. -/
theorem SampleDue.of_waitsOn {k : Nat} {w : EdgeWait} {s t : State} (due : SampleDue (k + 1) w s) (waits : WaitsOn w s t)
    (kept : Kept s t) : SampleDue k w t := by
  intro paces
  rw [paced_iff, kept.modeB, kept.paceL] at paces
  obtain ⟨falling, unbounded, pace, unarmed⟩ := paces
  have before : s.arm = false := Bool.eq_false_iff.2 fun armed => by simp [waits.arm.2 (.inl armed)] at unarmed
  have paced' : paced w s = true := (paced_iff w s).2 ⟨falling, unbounded, pace, before⟩
  obtain ⟨m, here⟩ := due paced'
  rw [waits.pcnt, if_pos paced', kept.params]
  cases count : s.pcnt with
  | zero =>
    rw [count] at here
    have period : 0 < paceCycles s.params := Nat.pos_of_ne_zero fun zero => by simp [zero] at here
    cases m with
    | zero => omega
    | succ m =>
      rw [Nat.succ_mul] at here
      exact ⟨m, by rw [if_pos rfl]; omega⟩
  | succ p => exact ⟨m, by rw [if_neg (Nat.succ_ne_zero p)]; omega⟩

/-! ## Levels that leave the wait waiting -/

/-- `n` cycles have passed in the same wait. -/
structure Waited (n : Nat) (w : EdgeWait) (s t : State) : Prop where
  st : t.st = .wait w
  kept : Kept s t
  same : NoCapture s t
  tcnt : s.tcnt ≤ tcntMax s.params → t.tcnt = min (s.tcnt + n) (tcntMax s.params)
  due : ∀ k, SampleDue (n + k) w s → SampleDue k w t

theorem Waited.zero {w : EdgeWait} {s : State} (hs : s.st = .wait w) : Waited 0 w s s :=
  ⟨hs, .refl s, .refl s, fun fits => (Nat.min_eq_left fits).symm, fun k due => by rwa [Nat.zero_add] at due⟩

theorem Waited.trans {m n : Nat} {w : EdgeWait} {s t u : State} (first : Waited m w s t) (second : Waited n w t u) :
    Waited (m + n) w s u where
  st := second.st
  kept := first.kept.trans second.kept
  same := first.same.trans second.same
  tcnt fits := by
    have counted := first.tcnt fits
    have fits' : t.tcnt ≤ tcntMax t.params := by rw [counted, first.kept.params]; exact Nat.min_le_right _ _
    rw [second.tcnt fits', first.kept.params, counted]
    omega
  due k due := second.due k (first.due (n + k) (by rwa [← Nat.add_assoc]))

theorem WaitsOn.waited {w : EdgeWait} {s t : State} (waits : WaitsOn w s t) (kept : Kept s t) (same : NoCapture s t) :
    Waited 1 w s t :=
  ⟨waits.st, kept, same, fun _ => waits.tcnt, fun k due => SampleDue.of_waitsOn (by rwa [Nat.add_comm]) waits kept⟩

/-- A cycle whose level is no edge, within the bound. -/
theorem step_waits {w : EdgeWait} {s t : State} (run : Runs s) (hs : s.st = .wait w)
    (noEdge : s.arm = true → s.sync1 ≠ targetLevel w) (inTime : s.modeB = true → s.tcnt ≤ timeoutCycles s.params)
    (e : step s = .next t) : WaitsOn w s t ∧ Waited 1 w s t := by
  obtain ⟨cycle, kept⟩ := step_wait run hs e
  obtain ⟨waits, same⟩ := cycle.continues ((completes_eq_false_iff w s).2 fun ⟨armed, edge⟩ => noEdge armed edge)
    ((timesOut_eq_false_iff s).2 fun ⟨bounded, late⟩ => Nat.not_lt.2 (inTime bounded) late)
  exact ⟨waits, waits.waited kept same⟩

/-- A line that stays at one level leaves the wait waiting, unless the wait is armed for that level; the level opposite to
the target arms it as soon as one of its cycles is a sample, the target level does not. -/
theorem runFor_level {n : Nat} {w : EdgeWait} {x : Bool} {levels : List Bool} {s : State} (hs : s.st = .wait w)
    (noEdge : s.arm = true → x ≠ targetLevel w)
    (inTime : s.modeB = true → s.tcnt + n ≤ timeoutCycles s.params + 1)
    (ahead : Ahead (List.replicate n x ++ levels) s) :
    ∃ t, runFor n s = .next t ∧ Ahead levels t ∧ Waited n w s t
      ∧ (t.arm = true → s.arm = true ∨ x ≠ targetLevel w)
      ∧ (s.arm = true ∨ (x ≠ targetLevel w ∧ ∃ k < n, SampleDue k w s) → t.arm = true) := by
  induction n generalizing s with
  | zero =>
    refine ⟨s, rfl, ahead, .zero hs, .inl, ?_⟩
    rintro (set | ⟨_, k, within, _⟩)
    · exact set
    · exact absurd within (Nat.not_lt_zero k)
  | succ n ih =>
    rw [List.replicate_succ, List.cons_append] at ahead
    have level := ahead.sync1
    obtain ⟨t, e, ahead'⟩ := ahead.step
    obtain ⟨waits, one⟩ := step_waits ahead.quiet.runs hs (level ▸ noEdge)
      (fun bounded => Nat.le_of_add_le_add_right (Nat.le_trans (by omega) (inTime bounded))) e
    have arms := waits.arm
    rw [level] at arms
    have counted : t.tcnt ≤ s.tcnt + 1 := waits.tcnt ▸ Nat.min_le_left _ _
    have inTime' : t.modeB = true → t.tcnt + n ≤ timeoutCycles t.params + 1 := by
      rw [one.kept.modeB, one.kept.params]
      exact fun bounded => Nat.le_trans (by omega) (inTime bounded)
    obtain ⟨u, rest, ahead'', others, fromArm, toArm⟩ :=
      ih waits.st (fun set => (arms.1 set).elim noEdge And.right) inTime' ahead'
    refine ⟨u, (runFor_succ e).trans rest, ahead'', Nat.add_comm n 1 ▸ one.trans others, fun set => ?_, ?_⟩
    · exact (fromArm set).elim (fun set => (arms.1 set).imp_right And.right) .inr
    · rintro (set | ⟨opposite, k, within, due⟩)
      · exact toArm (.inl (arms.2 (.inl set)))
      · cases k with
        | zero => exact toArm (.inl (arms.2 (.inr ⟨due.samples, opposite⟩)))
        | succ k => exact toArm (.inr ⟨opposite, k, Nat.lt_of_succ_lt_succ within, due.of_waitsOn waits one.kept⟩)

/-! ## An unbounded wait on a silent line -/

/-- The levels listed from this state on are one level, and no reset comes. -/
theorem ahead_replicate {n : Nat} {level : Bool} {s : State} (quiet : Undisturbed n s) (sampled : s.sync1 = level)
    (next : s.sync0 = level) (long : n ≤ s.lineIn.length) (silent : ∀ b ∈ s.lineIn.take n, b = level) :
    Ahead (List.replicate n level ++ []) s := by
  rw [List.append_nil]
  refine ⟨by rwa [List.length_replicate], ?_⟩
  have listed : List.replicate n level = s.lineIn.take n :=
    (List.eq_replicate_iff.2 ⟨by rw [List.length_take, Nat.min_eq_left long], silent⟩).symm
  have longer : List.replicate n level <+: List.replicate (n + 2) level :=
    ⟨List.replicate 2 level, List.replicate_append_replicate⟩
  refine longer.trans ?_
  rw [List.replicate_succ, List.replicate_succ, sampled, next, listed]
  exact List.cons_prefix_cons.2 ⟨rfl, List.cons_prefix_cons.2 ⟨rfl, List.take_prefix n s.lineIn⟩⟩

/-- Settles O31: every level is the same, and it is no edge. -/
theorem unboundedWaitHangsOnASilentLine : Obligations.UnboundedWaitHangsOnASilentLine := by
  intro n s w level legal unbounded hs sampled next long silent noEdge noReset
  obtain ⟨t, run, _, waited, _⟩ := runFor_level hs noEdge (by simp [unbounded])
    (ahead_replicate ⟨noReset, legal⟩ sampled next long silent)
  exact ⟨t, run, waited.st, by simp [busy, waited.st]⟩

/-! ## The edge that ends a wait -/

/-- Levels at the target level, then levels opposite to it of which one is sampled, bring a wait to the cycle of its edge,
armed. -/
theorem runFor_until_edge {z a k : Nat} {w : EdgeWait} {levels : List Bool} {s : State} (hs : s.st = .wait w)
    (zero : s.tcnt = 0) (unarmed : s.arm = false) (due : SampleDue k w s) (afterLead : z ≤ k) (within : k < z + a)
    (inTime : s.modeB = true → z + a ≤ timeoutCycles s.params + 1)
    (ahead : Ahead (List.replicate z (targetLevel w) ++ (List.replicate a (!targetLevel w) ++ targetLevel w :: levels)) s) :
    ∃ t, runFor (z + a) s = .next t ∧ Ahead (targetLevel w :: levels) t ∧ Waited (z + a) w s t
      ∧ completes w t = true := by
  obtain ⟨t, lead, ahead', first, fromArm, _⟩ := runFor_level hs (by simp [unarmed])
    (fun bounded => Nat.le_trans (by omega) (inTime bounded)) ahead
  have unarmed' : t.arm = false := Bool.eq_false_iff.2 fun set => by simpa [unarmed] using fromArm set
  have counted : t.tcnt ≤ z := by rw [first.tcnt (by omega), zero, Nat.zero_add]; exact Nat.min_le_left _ _
  have due' : SampleDue (k - z) w t := first.due _ (by rwa [Nat.add_sub_cancel' afterLead])
  have inTime' : t.modeB = true → t.tcnt + a ≤ timeoutCycles t.params + 1 := by
    rw [first.kept.modeB, first.kept.params]
    exact fun bounded => Nat.le_trans (by omega) (inTime bounded)
  obtain ⟨u, opposite, ahead'', second, _, toArm⟩ := runFor_level first.st (by simp [unarmed']) inTime' ahead'
  have armed : u.arm = true := toArm (.inr ⟨by simp, k - z, by omega, due'⟩)
  exact ⟨u, (runFor_add lead).trans opposite, ahead'', first.trans second, (completes_iff w u).2 ⟨armed, ahead''.sync1⟩⟩

/-- The same with the cycle of the edge, where the edge captures no bit: the next wait starts. -/
theorem runFor_edge {z a k : Nat} {w : EdgeWait} {levels : List Bool} {s : State} (other : w ≠ .bitF)
    (hs : s.st = .wait w) (zero : s.tcnt = 0) (unarmed : s.arm = false) (due : SampleDue k w s) (afterLead : z ≤ k)
    (within : k < z + a) (inTime : s.modeB = true → z + a ≤ timeoutCycles s.params + 1)
    (ahead : Ahead (List.replicate z (targetLevel w) ++ (List.replicate a (!targetLevel w) ++ targetLevel w :: levels)) s) :
    ∃ t, runFor (z + a + 1) s = .next t ∧ Ahead levels t ∧ StartsWait (nextWait w) t ∧ Kept s t ∧ NoCapture s t := by
  obtain ⟨t, run, ahead', waited, edge⟩ := runFor_until_edge hs zero unarmed due afterLead within inTime ahead
  obtain ⟨u, e, ahead''⟩ := ahead'.step
  obtain ⟨cycle, kept⟩ := step_wait ahead'.quiet.runs waited.st e
  obtain ⟨next, same⟩ := cycle.passes edge other
  exact ⟨u, runFor_step run e, ahead'', next, waited.kept.trans kept, waited.same.trans same⟩

/-- From the first cycle of a wait, a run of the opposite level and then its edge. -/
theorem StartsWait.runFor_edge {a : Nat} {w : EdgeWait} {levels : List Bool} {s : State} (other : w ≠ .bitF)
    (starts : StartsWait w s) (inTime : s.modeB = true → a ≤ timeoutCycles s.params)
    (ahead : Ahead (List.replicate (a + 1) (!targetLevel w) ++ targetLevel w :: levels) s) :
    ∃ t, runFor (a + 2) s = .next t ∧ Ahead levels t ∧ StartsWait (nextWait w) t ∧ Kept s t ∧ NoCapture s t := by
  rw [show a + 2 = 0 + (a + 1) + 1 by omega]
  exact Machine.runFor_edge other starts.st starts.tcnt starts.arm starts.sampleDue_zero (Nat.le_refl 0) (by omega)
    (fun bounded => by have := inTime bounded; omega) ahead

/-! ## The preamble -/

/-- Settles O27: PRE_F1 ends at the first low level after the high run, PRE_R at the first high one after it, and PRE_F2
at the last level. -/
theorem preambleIsConsumed : Obligations.PreambleIsConsumed := by
  intro s z a b c rest _ known hs zero unarmed noPace someHigh lowRun highRun bounded pacing line noReset
  obtain ⟨b, rfl⟩ := Nat.exists_eq_add_of_le' lowRun
  obtain ⟨c, rfl⟩ := Nat.exists_eq_add_of_le' highRun
  have ahead : Ahead (List.replicate z false ++ (List.replicate a true ++ false :: (List.replicate (b + 1) false
      ++ true :: (List.replicate (c + 1) true ++ [false])))) s := by
    refine ahead_of_line (rest := rest) known noReset ?_ ?_
    · simp only [List.length_append, List.length_replicate, List.length_cons, List.length_nil]
      omega
    · simp only [line, List.replicate_succ, List.append_assoc, List.cons_append, List.nil_append]
  have starts : StartsWait .preF1 s := ⟨hs, zero, unarmed, noPace⟩
  obtain ⟨k, afterLead, within, due⟩ : ∃ k, z ≤ k ∧ k < z + a ∧ SampleDue k .preF1 s := by
    by_cases paces : s.modeB = false ∧ s.paceL = true
    · obtain ⟨j, low, high⟩ := pacing paces.1 paces.2
      exact ⟨_, low, high, starts.sampleDue j⟩
    · refine ⟨z, Nat.le_refl z, by omega, fun p => ?_⟩
      obtain ⟨_, mode, pace, _⟩ := (paced_iff _ _).1 p
      exact absurd ⟨mode, pace⟩ paces
  obtain ⟨t, run₁, ahead₁, starts₁, kept₁, same₁⟩ := runFor_edge (w := .preF1) nofun hs zero unarmed due afterLead within
    (fun mode => (bounded mode).1) ahead
  have bounded₁ : t.modeB = true → b ≤ timeoutCycles t.params := by
    rw [kept₁.modeB, kept₁.params]
    exact fun mode => Nat.le_of_add_le_add_right (bounded mode).2.1
  obtain ⟨u, run₂, ahead₂, starts₂, kept₂, same₂⟩ := StartsWait.runFor_edge (w := .preR) nofun starts₁ bounded₁ ahead₁
  have bounded₂ : u.modeB = true → c ≤ timeoutCycles u.params := by
    rw [(kept₁.trans kept₂).modeB, (kept₁.trans kept₂).params]
    exact fun mode => Nat.le_of_add_le_add_right (bounded mode).2.2
  obtain ⟨v, run₃, _, starts₃, _, same₃⟩ := StartsWait.runFor_edge (w := .preF2) nofun starts₂ bounded₂ ahead₂
  have run := (runFor_add run₁).trans ((runFor_add run₂).trans run₃)
  have same := same₁.trans (same₂.trans same₃)
  refine ⟨v, ?_, starts₃.st, starts₃.tcnt, starts₃.arm, starts₃.pcnt, same.bitcnt, same.shift, same.frame⟩
  rwa [show z + a + (b + 2) + (c + 2) + 1 = z + a + 1 + (b + 2 + (c + 2)) by omega]

end Sys2Proof.Machine
end

section
/-! The data pulses (spec/40_acquisition.md R116 to R119, R122): one pulse is one captured bit, and forty are FRAME in wire
order. -/

namespace Sys2Proof.Machine

/-! ## One pulse -/

theorem Captures.of_noCapture {b : Bool} {s t u : State} (same : NoCapture s t) (bit : Captures b t u) : Captures b s u where
  shift := by rw [bit.shift, same.shift]
  bitcnt := by rw [bit.bitcnt, same.bitcnt]
  last := by rw [← same.bitcnt]; exact bit.last
  more := by rw [← same.bitcnt, ← same.frame]; exact bit.more

theorem Captures.bitcnt_toNat {b : Bool} {s t : State} (bit : Captures b s t) (few : s.bitcnt.toNat < 40) :
    t.bitcnt.toNat = s.bitcnt.toNat + 1 := by
  rw [bit.bitcnt, bitcnt_succ_toNat few]

/-- Legal parameters leave room in TCNT for every width up to BIT_CYCLES (R7, R116). -/
theorem bitCycles_lt_tcntMax {p : Params} (legal : legalParams p = true) : 50 * p.cyclesPerUs < tcntMax p := by
  obtain ⟨_, _, _, fits, _⟩ := (legalParams_iff p).1 legal
  simp only [timeoutCycles] at fits
  omega

/-- The state may take a pulse: the first cycle of BIT_R, with room for the bit. -/
structure ReadyForPulse (s : State) : Prop where
  few : s.bitcnt.toNat < 40
  st : s.st = .wait .bitR
  tcnt : s.tcnt = 0
  arm : s.arm = false

/-- A clean pulse is captured as one bit, 1 exactly when its high run is longer than BIT_CYCLES. -/
theorem runFor_pulse {m h : Nat} {levels : List Bool} {s : State} (ready : ReadyForPulse s)
    (legal : legalParams s.params = true) (low : 1 ≤ m) (high : 2 ≤ h)
    (bounded : s.modeB = true → m ≤ timeoutCycles s.params + 1 ∧ h ≤ timeoutCycles s.params + 2)
    (ahead : Ahead (List.replicate m false ++ List.replicate h true ++ [false] ++ levels) s) :
    ∃ t, runFor (m + h + 1) s = .next t ∧ Ahead levels t ∧ Kept s t
      ∧ Captures (decide (50 * s.params.cyclesPerUs < h)) s t := by
  obtain ⟨h, rfl⟩ := Nat.exists_eq_add_of_le' high
  have rising : Ahead (List.replicate m false ++ true :: (List.replicate (h + 1) true ++ false :: levels)) s := by
    simpa [List.replicate_succ] using ahead
  obtain ⟨t, run₁, ahead₁, starts, kept₁, same₁⟩ := runFor_edge (w := .bitR) (z := 0) (k := 0) nofun ready.st ready.tcnt
    ready.arm (sampleDue_of_rising 0 rfl) (Nat.le_refl 0) (by omega)
    (fun mode => by have := (bounded mode).1; omega) rising
  have bounded₁ : t.modeB = true → 0 + (h + 1) ≤ timeoutCycles t.params + 1 := by
    rw [kept₁.modeB, kept₁.params]
    intro mode
    have := (bounded mode).2
    omega
  obtain ⟨u, run₂, ahead₂, waited, edge⟩ := runFor_until_edge (w := .bitF) (z := 0) (k := 0) starts.st starts.tcnt starts.arm
    starts.sampleDue_zero (Nat.le_refl 0) (by omega) bounded₁ ahead₁
  obtain ⟨v, e, ahead₃⟩ := ahead₂.step
  obtain ⟨cycle, kept₃⟩ := step_wait ahead₂.quiet.runs waited.st e
  have width : classifiedBit u = decide (50 * s.params.cyclesPerUs < h + 2) := by
    have room := bitCycles_lt_tcntMax legal
    rw [classifiedBit_eq, waited.tcnt (by simp [starts.tcnt]), starts.tcnt, waited.kept.params, kept₁.params,
      decide_eq_decide]
    omega
  have bit := width ▸ cycle.captures edge
  refine ⟨v, ?_, ahead₃, kept₁.trans (waited.kept.trans kept₃), bit.of_noCapture (same₁.trans waited.same)⟩
  rw [show m + (h + 2) + 1 = 0 + m + 1 + (0 + (h + 1) + 1) by omega]
  exact (runFor_add run₁).trans (runFor_step run₂ e)

/-- Settles O28: the captured bit of one pulse. -/
theorem cleanPulseIsMeasuredExactly : Obligations.CleanPulseIsMeasuredExactly := by
  intro s m h rest legal known hs zero unarmed few low high bounded line noReset
  have ahead : Ahead (List.replicate m false ++ List.replicate h true ++ [false] ++ []) s := by
    refine ahead_of_line (rest := rest) known noReset ?_ ?_
    · simp only [List.length_append, List.length_replicate, List.length_cons, List.length_nil, Nat.add_zero, Nat.zero_add]
    · simp only [line, List.append_assoc, List.cons_append, List.nil_append]
  obtain ⟨t, run, _, _, bit⟩ := runFor_pulse ⟨few, hs, zero, unarmed⟩ legal low high bounded ahead
  exact ⟨t, run, bit.bitcnt_toNat few, by rw [bit.shift, shiftedIn_decide_toNat], bit.st_eq⟩

/-! ## Bits shifted in one after the other -/

theorem shiftedIn_getLsbD (f : Frame) (b : Bool) (n : Nat) : (shiftedIn f b).getLsbD n
    = if n < 1 then (bit b).getLsbD n else (f.extractLsb' 0 39).getLsbD (n - 1) :=
  BitVec.getLsbD_append

theorem shiftedIn_getLsbD_zero (f : Frame) (b : Bool) : (shiftedIn f b).getLsbD 0 = b := by
  rw [shiftedIn_getLsbD, if_pos Nat.zero_lt_one, bit, BitVec.getLsbD_ofBool]
  rfl

theorem shiftedIn_getLsbD_succ (f : Frame) (b : Bool) {n : Nat} (fits : n + 1 < 40) :
    (shiftedIn f b).getLsbD (n + 1) = f.getLsbD n := by
  simp [shiftedIn_getLsbD, show n < 39 by omega]

/-- The register after the bits, the last of them at its low end. -/
def shiftedInAll (f : Frame) (bits : List Bool) : Frame := bits.foldl shiftedIn f

/-- The bit shifted in `n` bits before the last stands at place `n`. -/
theorem foldr_shiftedIn_getLsbD (f : Frame) {bits : List Bool} {n : Nat} {b : Bool} (here : bits[n]? = some b)
    (fits : n < 40) : (bits.foldr (fun b f => shiftedIn f b) f).getLsbD n = b := by
  induction bits generalizing n with
  | nil => simp at here
  | cons c bits ih =>
    cases n with
    | zero =>
      rw [List.foldr_cons, shiftedIn_getLsbD_zero]
      simpa using here
    | succ n =>
      rw [List.foldr_cons, shiftedIn_getLsbD_succ _ _ fits]
      exact ih (by simpa using here) (by omega)

theorem shiftedInAll_getLsbD (f : Frame) {bits : List Bool} {i : Nat} {b : Bool} (full : bits.length = 40)
    (here : bits[i]? = some b) : (shiftedInAll f bits).getLsbD (39 - i) = b := by
  have inside : i < 40 := full ▸ (List.getElem?_eq_some_iff.1 here).1
  rw [shiftedInAll, List.foldl_eq_foldr_reverse]
  refine foldr_shiftedIn_getLsbD f ?_ (by omega)
  rw [List.getElem?_reverse (by omega), full, show 40 - 1 - (39 - i) = i by omega, here]

/-! ## Pulses one after the other -/

/-- The levels of a pulse, with the low one at which its edge is seen. -/
def pulseLevels (q : Nat × Nat) : List Bool := List.replicate q.1 false ++ List.replicate q.2 true ++ [false]

/-- The bit of a pulse (R116). -/
def pulseBit (p : Params) (q : Nat × Nat) : Bool := decide (50 * p.cyclesPerUs < q.2)

/-- The pulse is clean, and within the bound of the mode (R118). -/
def CleanPulse (s : State) (q : Nat × Nat) : Prop :=
  1 ≤ q.1 ∧ 2 ≤ q.2 ∧ (s.modeB = true → q.1 ≤ timeoutCycles s.params + 1 ∧ q.2 ≤ timeoutCycles s.params + 2)

/-- Between two pulses: ready for the next one, or all forty bits are in FRAME. -/
inductive BetweenPulses (s : State) : Prop where
  | ready (next : ReadyForPulse s)
  | full (all : s.bitcnt.toNat = 40) (st : s.st = .decode) (frame : s.frame = s.shift)

theorem Captures.betweenPulses {b : Bool} {s t : State} (bit : Captures b s t) (few : s.bitcnt.toNat < 40) :
    BetweenPulses t := by
  have count := bit.bitcnt_toNat few
  by_cases last : s.bitcnt.toNat + 1 = 40
  · obtain ⟨frame, st⟩ := bit.last last
    exact .full (count.trans last) st frame
  · obtain ⟨_, starts⟩ := bit.more last
    exact .ready ⟨by omega, starts.st, starts.tcnt, starts.arm⟩

theorem runFor_pulses (pulses : List (Nat × Nat)) {levels : List Bool} {s : State} (between : BetweenPulses s)
    (legal : legalParams s.params = true) (room : s.bitcnt.toNat + pulses.length ≤ 40)
    (clean : ∀ q ∈ pulses, CleanPulse s q) (ahead : Ahead (pulses.flatMap pulseLevels ++ levels) s) :
    ∃ t, runFor (pulses.map fun q => q.1 + q.2 + 1).sum s = .next t ∧ BetweenPulses t
      ∧ t.bitcnt.toNat = s.bitcnt.toNat + pulses.length
      ∧ t.shift = shiftedInAll s.shift (pulses.map (pulseBit s.params)) := by
  induction pulses generalizing s with
  | nil => exact ⟨s, rfl, between, rfl, rfl⟩
  | cons q pulses ih =>
    rw [List.length_cons] at room
    have ready : ReadyForPulse s := by
      cases between with
      | ready next => exact next
      | full all => omega
    rw [List.flatMap_cons, List.append_assoc] at ahead
    obtain ⟨low, high, bounded⟩ := clean q List.mem_cons_self
    obtain ⟨t, first, ahead', kept, bit⟩ := runFor_pulse ready legal low high bounded ahead
    have count := bit.bitcnt_toNat ready.few
    have clean' : ∀ q ∈ pulses, CleanPulse t q := fun q mem => by
      rw [CleanPulse, kept.modeB, kept.params]
      exact clean q (List.mem_cons_of_mem _ mem)
    obtain ⟨u, others, between', count', shift⟩ :=
      ih (bit.betweenPulses ready.few) (kept.params ▸ legal) (by omega) clean' ahead'
    refine ⟨u, (runFor_add first).trans others, between', by rw [count', count, List.length_cons]; omega, ?_⟩
    rw [shift, bit.shift, kept.params]
    rfl

/-- Settles O29: forty pulses fill SHIFT from its low end, and the fortieth hands it to FRAME. -/
theorem fortyPulsesAreCapturedInWireOrder : Obligations.FortyPulsesAreCapturedInWireOrder := by
  intro s pulses rest legal known hs zero unarmed empty _ forty clean line noReset
  have ahead : Ahead (pulses.flatMap pulseLevels ++ []) s := by
    refine ahead_of_line (rest := rest) known noReset ?_ ?_
    · simp only [List.append_nil, List.length_flatMap, pulseLevels, List.length_append, List.length_replicate,
        List.length_cons, List.length_nil, Nat.zero_add]
    · rw [List.append_nil]
      exact line
  obtain ⟨t, run, between, count, shift⟩ := runFor_pulses pulses (.ready ⟨by simp [empty], hs, zero, unarmed⟩) legal
    (by simp [empty, forty]) clean ahead
  rw [empty, forty] at count
  cases between with
  | ready next => exact absurd count (Nat.ne_of_lt next.few)
  | full all st frame =>
    refine ⟨t, run, st, all, fun i q here => ?_⟩
    rw [frame, shift]
    exact shiftedInAll_getLsbD s.shift (by simpa using forty) (by rw [List.getElem?_map, here]; rfl)

end Sys2Proof.Machine
end

section
/-! The end of a bounded acquisition (spec/40_acquisition.md R112, R121): each wait takes at most TIMEOUT_CYCLES + 2 cycles,
and there are at most 83 of them. -/

namespace Sys2Proof.Machine

/-! ## Operations that end -/

/-- The operation has ended, with a result the host can read (R201). -/
structure Ended (t : State) : Prop where
  st : t.st = .idle
  done : t.done = true
  result : t.result = .ok ∨ t.result = .timeout ∨ t.result = .checksum

/-- Without a reset the operation ends within `n` cycles, and is busy until then. -/
def EndsWithin (n : Nat) (s : State) : Prop :=
  Undisturbed n s → ∃ k t, k ≤ n ∧ runFor k s = .next t ∧ Ended t ∧ ∀ j < k, ∃ u, runFor j s = .next u ∧ u.st ≠ .idle

theorem EndsWithin.mono {m n : Nat} {s : State} (ends : EndsWithin m s) (le : m ≤ n) : EndsWithin n s := fun quiet => by
  obtain ⟨k, t, within, rest⟩ := ends (quiet.mono le)
  exact ⟨k, t, Nat.le_trans within le, rest⟩

theorem Ended.endsWithin {s : State} (ended : Ended s) : EndsWithin 0 s := fun _ =>
  ⟨0, s, Nat.le_refl 0, rfl, ended, fun _ early => absurd early (Nat.not_lt_zero _)⟩

/-- One cycle of an operation before its end. -/
theorem endsWithin_succ {n : Nat} {s : State} (running : s.st ≠ .idle)
    (next : ∀ t, Runs s → step s = .next t → EndsWithin n t) : EndsWithin (n + 1) s := fun quiet => by
  obtain ⟨u, e, quiet'⟩ := quiet.step
  obtain ⟨k, t, within, run, ended, before⟩ := next u quiet.runs e quiet'
  refine ⟨k + 1, t, Nat.succ_le_succ within, (runFor_succ e).trans run, ended, fun j early => ?_⟩
  cases j with
  | zero => exact ⟨s, rfl, running⟩
  | succ j => rw [runFor_succ e]; exact before j (Nat.lt_of_succ_lt_succ early)

theorem ended_of_finishes {s t : State} (run : Runs s) (ends : Finishes s) (e : step s = .next t) : Ended t := by
  obtain rfl := step_next_running run.1 e
  refine ⟨?_, (engineStep_done s _).2 (.inl ends), engineStep_result_of_finishes ends _⟩
  rw [clockEdge_st]
  rcases engineStep_cases s (hostHalf s) with ⟨goesOn, _⟩ | ⟨goesOn, _⟩ | ⟨_, w, e⟩ | ⟨_, _, e⟩
  · exact absurd ends goesOn
  · exact absurd ends goesOn
  · rw [e, waitTimeout_st]
  · obtain ⟨_, _, _, _, _, _, e', _⟩ := decodeStep_fields s (hostHalf s)
    rw [e, e', finish_st]

/-- The decode step takes one cycle (R147). -/
theorem endsWithin_decode {s : State} (decodes : s.st = .decode) : EndsWithin 1 s :=
  endsWithin_succ (by simp [decodes]) fun _ run e => (ended_of_finishes run (.inl decodes) e).endsWithin

/-! ## A bounded wait ends -/

/-- What the edge of a wait leads to: the next wait, or a captured bit. -/
def EdgeLeadsTo (w : EdgeWait) (s t : State) : Prop :=
  (StartsWait (nextWait w) t ∧ t.bitcnt = s.bitcnt ∧ w ≠ .bitF) ∨ (w = .bitF ∧ ∃ b, Captures b s t)

theorem WaitCycle.edgeLeadsTo {w : EdgeWait} {s t : State} (cycle : WaitCycle w s t) (edge : completes w s = true) :
    EdgeLeadsTo w s t := by
  by_cases pulse : w = .bitF
  · subst pulse
    exact .inr ⟨rfl, _, cycle.captures edge⟩
  · obtain ⟨next, same⟩ := cycle.passes edge pulse
    exact .inl ⟨next, same.bitcnt, pulse⟩

theorem EdgeLeadsTo.of_noCapture {w : EdgeWait} {s t u : State} (same : NoCapture s t) (edge : EdgeLeadsTo w t u) :
    EdgeLeadsTo w s u :=
  edge.imp (fun ⟨next, bitcnt, other⟩ => ⟨next, bitcnt.trans same.bitcnt, other⟩)
    fun ⟨pulse, b, bit⟩ => ⟨pulse, b, bit.of_noCapture same⟩

/-- The acquisition is bounded, with these parameters. -/
structure Bounded (p : Params) (s : State) : Prop where
  params : s.params = p
  mode : s.modeB = true

theorem Bounded.of_kept {p : Params} {s t : State} (bounded : Bounded p s) (kept : Kept s t) : Bounded p t :=
  ⟨kept.params.trans bounded.params, kept.modeB.trans bounded.mode⟩

/-- A wait with `d` cycles left before its bound ends in `d + 1` of them, by its edge or by the timeout. -/
theorem endsWithin_wait {d n : Nat} {w : EdgeWait} {p : Params} {s : State} (legal : legalParams p = true)
    (bounded : Bounded p s) (hs : s.st = .wait w) (left : s.tcnt + d = timeoutCycles p + 1)
    (next : ∀ t, Bounded p t → EdgeLeadsTo w s t → EndsWithin n t) : EndsWithin (n + d + 1) s := by
  induction d generalizing s with
  | zero =>
    refine endsWithin_succ (by simp [hs]) fun t run e => ?_
    obtain ⟨cycle, kept⟩ := step_wait run hs e
    cases edge : completes w s with
    | true => exact next t (bounded.of_kept kept) (cycle.edgeLeadsTo edge)
    | false =>
      have late : timesOut s = true := (timesOut_iff s).2 ⟨bounded.mode, by rw [bounded.params]; omega⟩
      exact (ended_of_finishes run (.inr ⟨w, hs, edge, late⟩) e).endsWithin.mono (Nat.zero_le _)
  | succ d ih =>
    refine endsWithin_succ (by simp [hs]) fun t run e => ?_
    obtain ⟨cycle, kept⟩ := step_wait run hs e
    cases edge : completes w s with
    | true => exact (next t (bounded.of_kept kept) (cycle.edgeLeadsTo edge)).mono (Nat.le_add_right n (d + 1))
    | false =>
      have inTime : timesOut s = false := by
        rw [timesOut_eq_false_iff, ← timeoutCycles, bounded.params]
        omega
      obtain ⟨waits, same⟩ := cycle.continues edge inTime
      obtain ⟨_, _, _, fits, _⟩ := (legalParams_iff p).1 legal
      have count : t.tcnt = s.tcnt + 1 := by rw [waits.tcnt, bounded.params, tcntNext_of_lt (by omega)]
      exact ih (bounded.of_kept kept) waits.st (by omega) fun u bounded' edge' => next u bounded' (edge'.of_noCapture same)

/-- A wait from its first cycle takes at most TIMEOUT_CYCLES + 2 cycles (R112, R121). -/
theorem endsWithin_firstCycle {n : Nat} {w : EdgeWait} {p : Params} {s : State} (legal : legalParams p = true)
    (bounded : Bounded p s) (hs : s.st = .wait w) (zero : s.tcnt = 0)
    (next : ∀ t, Bounded p t → EdgeLeadsTo w s t → EndsWithin n t) : EndsWithin (n + (timeoutCycles p + 2)) s :=
  endsWithin_wait (d := timeoutCycles p + 1) legal bounded hs (by rw [zero, Nat.zero_add]) next

/-- The same for a wait whose edge captures nothing, by the wait that it starts. -/
theorem endsWithin_edge {n : Nat} {w : EdgeWait} {p : Params} {s : State} (legal : legalParams p = true)
    (bounded : Bounded p s) (hs : s.st = .wait w) (zero : s.tcnt = 0) (other : w ≠ .bitF)
    (next : ∀ t, Bounded p t → StartsWait (nextWait w) t → t.bitcnt = s.bitcnt → EndsWithin n t) :
    EndsWithin (n + (timeoutCycles p + 2)) s :=
  endsWithin_firstCycle legal bounded hs zero fun t bounded' edge => by
    rcases edge with ⟨starts, bitcnt, _⟩ | ⟨pulse, _⟩
    · exact next t bounded' starts bitcnt
    · exact absurd pulse other

/-- The wait of a pulse's end ends the operation or captures the bit. -/
theorem endsWithin_pulseEnd {n : Nat} {p : Params} {s : State} (legal : legalParams p = true) (bounded : Bounded p s)
    (starts : StartsWait .bitF s) (next : ∀ t b, Bounded p t → Captures b s t → EndsWithin n t) :
    EndsWithin (n + (timeoutCycles p + 2)) s :=
  endsWithin_firstCycle legal bounded starts.st starts.tcnt fun t bounded' edge => by
    rcases edge with ⟨_, _, other⟩ | ⟨_, b, bit⟩
    · exact absurd rfl other
    · exact next t b bounded' bit

/-! ## The acquisition ends -/

/-- The `r` bits still to come take two waits each, and then there is the decode step. -/
theorem endsWithin_bits {r : Nat} {p : Params} {s : State} (legal : legalParams p = true) (bounded : Bounded p s)
    (between : BetweenPulses s) (left : s.bitcnt.toNat + r = 40) :
    EndsWithin (r * (2 * (timeoutCycles p + 2)) + 1) s := by
  induction r generalizing s with
  | zero =>
    rw [Nat.zero_mul]
    cases between with
    | ready next => exact absurd left (Nat.ne_of_lt next.few)
    | full _ st => exact endsWithin_decode st
  | succ r ih =>
    cases between with
    | full all => omega
    | ready next =>
      have slot := endsWithin_edge legal bounded next.st next.tcnt nofun fun t bounded' starts same =>
        endsWithin_pulseEnd legal bounded' starts fun u b bounded'' bit =>
          have few : t.bitcnt.toNat < 40 := same ▸ next.few
          ih bounded'' (bit.betweenPulses few) (by rw [bit.bitcnt_toNat few, same]; omega)
      exact slot.mono (by rw [Nat.succ_mul r]; omega)

/-- From the first cycle of PRE_F1 there are at most 83 waits and the decode step. -/
theorem endsWithin_preamble {p : Params} {s : State} (legal : legalParams p = true) (bounded : Bounded p s)
    (starts : StartsWait .preF1 s) (empty : s.bitcnt = 0#6) : EndsWithin (83 * (timeoutCycles p + 2) + 1) s := by
  have bits : ∀ t, Bounded p t → StartsWait .bitR t → t.bitcnt = 0#6 →
      EndsWithin (40 * (2 * (timeoutCycles p + 2)) + 1) t := fun t bounded' starts' empty' =>
    endsWithin_bits legal bounded' (.ready ⟨by simp [empty'], starts'.st, starts'.tcnt, starts'.arm⟩) (by simp [empty'])
  have waits := endsWithin_edge legal bounded starts.st starts.tcnt nofun fun t bounded₁ starts₁ same₁ =>
    endsWithin_edge legal bounded₁ starts₁.st starts₁.tcnt nofun fun u bounded₂ starts₂ same₂ =>
      endsWithin_edge legal bounded₂ starts₂.st starts₂.tcnt nofun fun v bounded₃ starts₃ same₃ =>
        bits v bounded₃ starts₃ (same₃.trans (same₂.trans (same₁.trans empty)))
  exact waits.mono (by omega)

/-- Settles O30: the trigger, the three waits of the preamble, the two of each bit, and the decode step. -/
theorem boundedAcquisitionEnds : Obligations.BoundedAcquisitionEnds := by
  intro s lo ign legal run idle presents bound noReset
  have action : hostAction s = .acquire true := hostAction_of_presents rfl presents
  have length : bound + 1 = trigCycles s.params + 4 + (83 * (timeoutCycles s.params + 2) + 1) := by
    simp only [bound, trigCycles, timeoutCycles]
    omega
  have quiet : Undisturbed (trigCycles s.params + 4 + (83 * (timeoutCycles s.params + 2) + 1)) s :=
    ⟨length ▸ noReset, run.2⟩
  have trigger := fun {c : Nat} => runFor_trigger (c := c) legal idle action (quiet.mono (Nat.le_add_right _ _))
  obtain ⟨t, lead, cycle, params, mode, empty⟩ := trigger (by omega) (Nat.le_refl _)
  have starts := cycle.starts (by rw [params])
  obtain ⟨k, u, within, rest, ended, before⟩ :=
    endsWithin_preamble legal ⟨params, mode⟩ starts empty (quiet.of_runFor lead)
  refine ⟨trigCycles s.params + 4 + k, u, by omega, by omega, (runFor_add lead).trans rest, ended.st, ended.done,
    ended.result, fun j first early => ?_⟩
  by_cases inTrigger : j ≤ trigCycles s.params + 4
  · obtain ⟨v, toHere, cycle', _⟩ := trigger first inTrigger
    exact ⟨v, toHere, cycle'.running.1⟩
  · obtain ⟨v, toHere, running⟩ := before (j - (trigCycles s.params + 4)) (by omega)
    refine ⟨v, ?_, running⟩
    rw [← toHere, ← runFor_add lead, Nat.add_sub_cancel' (by omega)]

end Sys2Proof.Machine
end

section
/-! The bytes of a frame and its decode in numbers (spec/41_decoder.md R141 to R147). -/

namespace Sys2Proof.Machine

/-! ## A frame written as its five bytes -/

section
variable (b0 b1 b2 b3 b4 : Byte)

theorem frameBytes_toNat : (b0 ++ b1 ++ b2 ++ b3 ++ b4 : Frame).toNat
    = 2 ^ 32 * b0.toNat + 2 ^ 24 * b1.toNat + 2 ^ 16 * b2.toNat + 2 ^ 8 * b3.toNat + b4.toNat := by
  rw [toNat_append_eq_add, toNat_append_eq_add, toNat_append_eq_add, toNat_append_eq_add]
  omega

@[simp] theorem field0_frameBytes : field0 (b0 ++ b1 ++ b2 ++ b3 ++ b4) = b0 := by
  rw [← BitVec.toNat_inj, field0_toNat, frameBytes_toNat]
  omega

@[simp] theorem field1_frameBytes : field1 (b0 ++ b1 ++ b2 ++ b3 ++ b4) = b1 := by
  rw [← BitVec.toNat_inj, field1_toNat, frameBytes_toNat]
  omega

@[simp] theorem field2_frameBytes : field2 (b0 ++ b1 ++ b2 ++ b3 ++ b4) = b2 := by
  rw [← BitVec.toNat_inj, field2_toNat, frameBytes_toNat]
  omega

@[simp] theorem field3_frameBytes : field3 (b0 ++ b1 ++ b2 ++ b3 ++ b4) = b3 := by
  rw [← BitVec.toNat_inj, field3_toNat, frameBytes_toNat]
  omega

@[simp] theorem field4_frameBytes : field4 (b0 ++ b1 ++ b2 ++ b3 ++ b4) = b4 := by
  rw [← BitVec.toNat_inj, field4_toNat, frameBytes_toNat]
  omega

end

/-! ## The sum and the measurement, from the bytes -/

/-- CALCSUM is the sum of the four upper bytes modulo 256 (R143). -/
theorem wrappingSum_toNat (f : Frame) : (wrappingSum f).toNat
    = ((field0 f).toNat + (field1 f).toNat + (field2 f).toNat + (field3 f).toNat) % 256 := by
  simp only [wrappingSum, BitVec.toNat_add]
  omega

/-- The checksum matches when that sum is the lowest byte (R144). -/
theorem checksumOk_iff_sum (f : Frame) : checksumOk f = true ↔
    ((field0 f).toNat + (field1 f).toNat + (field2 f).toNat + (field3 f).toNat) % 256 = (field4 f).toNat := by
  rw [checksumOk, beq_iff_eq, ← BitVec.toNat_inj, wrappingSum_toNat]

theorem checksumOk_frameBytes (b0 b1 b2 b3 b4 : Byte) : checksumOk (b0 ++ b1 ++ b2 ++ b3 ++ b4) = true ↔
    (b0.toNat + b1.toNat + b2.toNat + b3.toNat) % 256 = b4.toNat := by
  rw [checksumOk_iff_sum, field0_frameBytes, field1_frameBytes, field2_frameBytes, field3_frameBytes, field4_frameBytes]

/-- HUM is B0 and B1 (R145). -/
theorem frameHum_toNat_eq_fields (f : Frame) : (frameHum f).toNat = 256 * (field0 f).toNat + (field1 f).toNat :=
  toNat_append_eq_add (field0 f) (field1 f)

/-- TSIGN is the top bit of B2 (R146). -/
theorem frameTsign_eq_decide (f : Frame) : frameTsign f = decide (128 ≤ (field2 f).toNat) :=
  BitVec.msb_eq_decide (field2 f)

/-- TMAG is the rest of B2, and B3 (R146). -/
theorem frameTmag_toNat (f : Frame) :
    (frameTmag f).toNat = 256 * ((field2 f).toNat % 128) + (field3 f).toNat := by
  have low : ((field2 f).extractLsb' 0 7).toNat = (field2 f).toNat % 128 := BitVec.extractLsb'_toNat 0 7 (field2 f)
  have joined := toNat_append_eq_add ((field2 f).extractLsb' 0 7) (field3 f)
  rw [low] at joined
  exact joined

/-! ## A cycle of the decode step -/

/-- What the cycle of a decode leaves for the frame of `s` (R141 to R147); all but TO_STATE, which the acceptance of a
DECODE clears before it. -/
structure DecodeCycle (s t : State) : Prop where
  st : t.st = .idle
  done : t.done = true
  rxsum : t.rxsum = field4 s.frame
  calcsum : t.calcsum = wrappingSum s.frame
  onMatch : checksumOk s.frame = true →
    t.result = .ok ∧ t.hum = frameHum s.frame ∧ t.tsign = frameTsign s.frame ∧ t.tmag = frameTmag s.frame
  onMismatch : checksumOk s.frame = false →
    t.result = .checksum ∧ t.hum = s.hum ∧ t.tsign = s.tsign ∧ t.tmag = s.tmag
  noCapture : NoCapture s t
  modeB : t.modeB = s.modeB
  paceL : t.paceL = s.paceL

theorem decodeCycle_clockEdge {s h : State} (decodes : s.st = .decode) (side : HostSide s h) :
    DecodeCycle s (clockEdge s h) ∧ (clockEdge s h).toState = s.toState := by
  rcases decodeStep_cases s h with ⟨matched, e⟩ | ⟨mismatched, e⟩ <;>
    rw [clockEdge, engineStep_decode h decodes, e, side]
  · exact ⟨⟨rfl, rfl, rfl, rfl, fun _ => ⟨rfl, rfl, rfl, rfl⟩, by simp [matched], ⟨rfl, rfl, rfl⟩, rfl, rfl⟩, rfl⟩
  · exact ⟨⟨rfl, rfl, rfl, rfl, by simp [mismatched], fun _ => ⟨rfl, rfl, rfl, rfl⟩, ⟨rfl, rfl, rfl⟩, rfl, rfl⟩, rfl⟩

/-- The decode step runs in the one cycle of DECODE, whatever the host does in it. -/
theorem step_of_decode {s : State} (run : Runs s) (decodes : s.st = .decode) :
    ∃ t, step s = .next t ∧ DecodeCycle s t ∧ t.toState = s.toState :=
  ⟨_, step_eq_clockEdge run, decodeCycle_clockEdge decodes
    (hostSide_of_hostEffect (hostEffect_iff.2 rfl) (by simp [decodes]))⟩

section
variable {s s' t t' : State}

/-- RESULT is OK exactly on a match, and CHECKSUM otherwise (R147). -/
theorem DecodeCycle.result (cycle : DecodeCycle s t) :
    t.result = if checksumOk s.frame then .ok else .checksum := by
  split
  · exact (cycle.onMatch ‹_›).1
  · exact (cycle.onMismatch (Bool.eq_false_iff.2 ‹_›)).1

/-- Two decodes of one frame leave the same result, the same sums and, on OK, the same measurement (R151). -/
theorem DecodeCycle.agree (cycle : DecodeCycle s t) (cycle' : DecodeCycle s' t') (same : s.frame = s'.frame) :
    t.result = t'.result ∧ t.rxsum = t'.rxsum ∧ t.calcsum = t'.calcsum
      ∧ (t.result = .ok → t.hum = t'.hum ∧ t.tsign = t'.tsign ∧ t.tmag = t'.tmag) := by
  refine ⟨by rw [cycle.result, cycle'.result, same], by rw [cycle.rxsum, cycle'.rxsum, same],
    by rw [cycle.calcsum, cycle'.calcsum, same], fun ok => ?_⟩
  have matched : checksumOk s.frame = true := by
    rw [cycle.result] at ok
    split at ok
    · assumption
    · cases ok
  obtain ⟨_, hum, tsign, tmag⟩ := cycle.onMatch matched
  obtain ⟨_, hum', tsign', tmag'⟩ := cycle'.onMatch (same ▸ matched)
  rw [hum, hum', tsign, tsign', tmag, tmag', same]
  exact ⟨rfl, rfl, rfl⟩

/-- A second decode of the frame leaves the measurement of the first (R152). -/
theorem DecodeCycle.again (first : DecodeCycle s t) (second : DecodeCycle t t') :
    t.hum = t'.hum ∧ t.tsign = t'.tsign ∧ t.tmag = t'.tmag := by
  have same : s.frame = t.frame := first.noCapture.frame.symm
  cases checksum : checksumOk t.frame with
  | true =>
    obtain ⟨_, _, _, measured⟩ := first.agree second same
    exact measured (first.onMatch (same ▸ checksum)).1
  | false =>
    obtain ⟨_, hum, tsign, tmag⟩ := second.onMismatch checksum
    exact ⟨hum.symm, tsign.symm, tmag.symm⟩

end

/-- DECODE by command on an idle block, two cycles: the acceptance and the decode step (R140, R141). -/
theorem runFor_decodeCommand {s : State} {lo : BitVec 2} {ign : BitVec 28} {rest : List HostPorts} (idle : s.st = .idle)
    (legal : s.result ≠ .invalidFrame)
    (listed : s.hostIn = requestPorts (encode (.decode lo ign)) :: idlePorts :: rest) :
    ∃ t, runFor 2 s = .next t ∧ DecodeCycle s t ∧ t.hostIn = rest := by
  have run : Runs s := ⟨by rw [State.ports, listed]; rfl, legal⟩
  have presents : Presents s (.decode lo ign) := by
    rw [Presents, State.ports, listed, portsRequest_requestPorts]
  have accepted : hostHalf s = acceptDecode (beginCycle s) := by
    rw [hostHalf, hostAction_of_presents rfl presents]
    exact command_idle _ idle
  have accept := step_eq_clockEdge run
  rw [clockEdge, engineStep_idle _ idle, accepted] at accept
  have ports := (step_inputs accept).1
  obtain ⟨t, decode, cycle, _⟩ := step_of_decode ⟨by rw [State.ports, ports, listed]; rfl, by simp⟩ rfl
  exact ⟨t, (runFor_succ accept).trans (runFor_succ decode), { cycle with noCapture := { cycle.noCapture with } },
    by rw [(step_inputs decode).1, ports, listed]; rfl⟩

/-! ## The statements about the decoder -/

/-- Settles O32: the decode step's cycle, its bytes and fields as numbers. -/
theorem decodeStepValidatesAndScales : Obligations.DecodeStepValidatesAndScales := by
  rintro s b0 b1 b2 b3 b4 run decodes h0 h1 h2 h3 h4
  obtain ⟨t, e, cycle, toState⟩ := step_of_decode run decodes
  have top : s.frame.toNat < 2 ^ 40 := s.frame.isLt
  obtain rfl : b0 = (field0 s.frame).toNat := by rw [field0_toNat]; omega
  obtain rfl : b1 = (field1 s.frame).toNat := h1.trans (field1_toNat _).symm
  obtain rfl : b2 = (field2 s.frame).toNat := h2.trans (field2_toNat _).symm
  obtain rfl : b3 = (field3 s.frame).toNat := h3.trans (field3_toNat _).symm
  obtain rfl : b4 = (field4 s.frame).toNat := h4.trans (field4_toNat _).symm
  refine ⟨t, e, cycle.st, cycle.done, by rw [cycle.rxsum], by rw [cycle.calcsum, wrappingSum_toNat], fun sum => ?_,
    fun sum => cycle.onMismatch (by rwa [← Bool.not_eq_true, checksumOk_iff_sum]), cycle.noCapture.frame, cycle.modeB,
    cycle.paceL, cycle.noCapture.bitcnt, cycle.noCapture.shift, toState⟩
  obtain ⟨result, hum, tsign, tmag⟩ := cycle.onMatch ((checksumOk_iff_sum _).2 sum)
  exact ⟨result, by rw [hum, frameHum_toNat_eq_fields], by rw [tsign, frameTsign_eq_decide],
    by rw [tmag, frameTmag_toNat]⟩

/-- Settles O33: with the first four bytes fixed, one checksum byte alone matches. -/
theorem alteredChecksumIsRejected : Obligations.AlteredChecksumIsRejected := by
  intro s b0 b1 b2 b3 b4 run decodes frame
  obtain ⟨t, e, cycle, _⟩ := step_of_decode run decodes
  refine ⟨t, e, fun sum => ?_, fun b4' sum altered => cycle.onMismatch ?_⟩
  · have matched : checksumOk s.frame = true := by rwa [frame, checksumOk_frameBytes]
    exact (cycle.onMatch matched).1
  · rw [← Bool.not_eq_true, frame, checksumOk_frameBytes, sum]
    exact fun same => altered (BitVec.eq_of_toNat_eq same.symm)

/-- Setting the clear top bit of a byte adds 128. -/
theorem setSignBit_toNat {b : Byte} (unset : b.toNat < 128) : (b ||| 0x80#8).toNat = b.toNat + 128 := by
  rw [BitVec.toNat_or, Nat.or_comm]
  exact (Nat.two_pow_add_eq_or_of_lt (i := 7) unset 1).symm.trans (Nat.add_comm _ _)

/-- Settles O34: the sign bit is worth 128 in the sum and nothing in TMAG, so the checksum with 128 added still matches,
and the old one does not. -/
theorem signBitNegatesTheTemperature : Obligations.SignBitNegatesTheTemperature := by
  intro s s' s'' b0 b1 b2 b3 b4 run run' run'' decodes decodes' decodes'' frame positive sum frame' frame''
  have signSet := setSignBit_toNat positive
  obtain ⟨t, e, cycle, _⟩ := step_of_decode run decodes
  obtain ⟨t', e', cycle', _⟩ := step_of_decode run' decodes'
  obtain ⟨t'', e'', cycle'', _⟩ := step_of_decode run'' decodes''
  have matched : checksumOk s.frame = true := by rwa [frame, checksumOk_frameBytes]
  have matched' : checksumOk s'.frame = true := by
    rw [frame', checksumOk_frameBytes, signSet, BitVec.toNat_add, BitVec.toNat_ofNat]
    omega
  have mismatched : checksumOk s''.frame = false := by
    rw [← Bool.not_eq_true, frame'', checksumOk_frameBytes, signSet]
    omega
  obtain ⟨result, hum, tsign, tmag⟩ := cycle.onMatch matched
  obtain ⟨result', hum', tsign', tmag'⟩ := cycle'.onMatch matched'
  have plus : t.tsign = false := by simpa [tsign, frameTsign_eq_decide, frame] using positive
  have minus : t'.tsign = true := by simp [tsign', frameTsign_eq_decide, frame', signSet]
  have mag : t'.tmag = t.tmag := by
    simp [← BitVec.toNat_inj, tmag, tmag', frameTmag_toNat, frame, frame', signSet]
  refine ⟨t, t', t'', e, e', e'', result, result', (cycle''.onMismatch mismatched).1, ?_, mag, plus, minus, ?_⟩
  · simp [hum, hum', frameHum, frame, frame']
  · simp [temperatureWord_toInt, plus, minus, mag]

/-- Settles O35: two decodes of one frame agree, and a rejected frame leaves the measurement as it is. -/
theorem decodeIsAFunctionOfTheFrame : Obligations.DecodeIsAFunctionOfTheFrame := by
  refine ⟨fun s s' run run' decodes decodes' same => ?_, fun s lo ign rest idle legal listed => ?_⟩
  · obtain ⟨t, e, cycle, _⟩ := step_of_decode run decodes
    obtain ⟨t', e', cycle', _⟩ := step_of_decode run' decodes'
    exact ⟨t, t', e, e', cycle.agree cycle' same⟩
  · obtain ⟨t, run, first, left⟩ := runFor_decodeCommand idle legal listed
    have legal' : t.result ≠ .invalidFrame := by rw [first.result]; split <;> nofun
    obtain ⟨u, run', second, _⟩ := runFor_decodeCommand first.st legal' left
    have frame := first.noCapture.frame
    obtain ⟨result, rxsum, calcsum, _⟩ := first.agree second frame.symm
    obtain ⟨hum, tsign, tmag⟩ := first.again second
    exact ⟨t, u, run, (runFor_add run).trans run', frame, second.noCapture.frame.trans frame, hum, tsign, tmag, rxsum,
      calcsum, result, first.noCapture.bitcnt, first.modeB⟩

end Sys2Proof.Machine
end

section
/-! The host's register access (spec/42_register_access.md R160 to R169): what a read returns, what each write leaves, and
how the operation of a cycle joins the clock edge. -/

namespace Sys2Proof.Machine

/-! ## One cycle of an operation -/

/-- A cycle that presents a well-formed instruction is its action and the clock edge over it (R169). -/
theorem step_of_presents {s : State} {i : Instr} (run : Runs s) (wf : i.wellFormed = true) (p : Presents s i) :
    step s = .next (clockEdge s ((instrAction i).apply (beginCycle s))) := by
  rw [step_eq_clockEdge run, hostHalf, hostAction_of_presents wf p]

/-- `withFetchWord` presents the instruction of the word. -/
theorem presents_withFetchWord (s : State) (i : Instr) : Presents (s.withFetchWord 40 (encode i).toNat) i := by
  have fits : (encode i).toNat < 2 ^ 40 := Nat.lt_trans (encode i).isLt (by decide)
  have word : BitVec.ofNat 39 ((encode i).toNat % 2 ^ 40) = encode i := by
    rw [Nat.mod_eq_of_lt fits, BitVec.ofNat_toNat, BitVec.setWidth_eq]
  rw [Presents, State.withFetchWord, word]
  exact portsRequest_requestPorts (encode i)

/-- Settles O6: the host's half of the cycle is the decoded operation, or nothing, and `withFetchWord` presents one. -/
theorem stepRunsTheDecodedOperation : Obligations.StepRunsTheDecodedOperation := by
  refine ⟨fun s h w run request effect => ?_, fun s run quiet => ?_, fun s i wf legal => ?_⟩
  · rw [step_eq_clockEdge run, hostEffect_iff.1 (.operation request effect)]
  · rw [step_eq_clockEdge run, hostEffect_iff.1 (.nothing quiet)]
  · have run : Runs (s.withFetchWord 40 (encode i).toNat) := ⟨rfl, legal⟩
    exact ⟨_, exec_eq_apply i _, step_of_presents run wf (presents_withFetchWord s i)⟩

/-! ## Writes that do nothing -/

/-- An instruction without an action leaves the state as it is. -/
theorem exec_keep {i : Instr} (idle : instrAction i = .keep) (s : State) : exec i s = .next s := by
  rw [exec_eq_apply, idle, HostAction.apply]

/-- Settles O15: none of them has an action. -/
theorem nopAndUnmappedWritesDoNothing : Obligations.NopAndUnmappedWritesDoNothing := fun s _ _ _ =>
  ⟨exec_keep rfl s, exec_keep rfl s, exec_keep rfl s, exec_keep rfl s, exec_keep rfl s, exec_keep rfl s⟩

/-- No operation of the host writes the measurement (R165). -/
theorem hostHalf_measurement (s : State) :
    (hostHalf s).hum = s.hum ∧ (hostHalf s).tsign = s.tsign ∧ (hostHalf s).tmag = s.tmag := by
  rcases apply_cases (hostAction s) (beginCycle s) with ⟨_, _, _, e⟩ | ⟨_, _, e⟩ | ⟨_, _, _, _, _, _, _, e, _⟩ <;>
    simp [hostHalf, e]

/-- A cycle without reset that is no decode step with a match keeps the measurement (R145, R146). -/
theorem step_measurement_kept {s t : State} (running : s.ports.rst = false) (e : step s = .next t)
    (other : ¬ (s.st = .decode ∧ checksumOk s.frame = true)) :
    t.hum = s.hum ∧ t.tsign = s.tsign ∧ t.tmag = s.tmag := by
  by_cases decodes : s.st = .decode
  · have mismatched : checksumOk s.frame = false := Bool.eq_false_iff.2 fun matched => other ⟨decodes, matched⟩
    obtain ⟨u, e', cycle, _⟩ := step_of_decode (runs_of_step running e) decodes
    obtain rfl : t = u := by simpa [e] using e'
    exact (cycle.onMismatch mismatched).2
  · obtain ⟨hum, tsign, tmag⟩ := hostHalf_measurement s
    have kept := engineStep_kept (hostHalf s) decodes
    obtain rfl := step_next_running running e
    exact ⟨kept.hum.trans hum, kept.tsign.trans tsign, kept.tmag.trans tmag⟩

/-- Settles O16: the six writes have no action, and every cycle but the decode step of a match keeps the measurement. -/
theorem readOnlyRegistersIgnoreWrites : Obligations.ReadOnlyRegistersIgnoreWrites := by
  refine ⟨fun s _ _ => ⟨exec_keep rfl s, exec_keep rfl s, exec_keep rfl s, exec_keep rfl s, exec_keep rfl s,
    exec_keep rfl s⟩, fun s t running e differs => Decidable.byContradiction fun other => ?_⟩
  obtain ⟨hum, tsign, tmag⟩ := step_measurement_kept running e other
  rcases differs with differs | differs | differs
  · exact differs hum
  · exact differs tsign
  · exact differs tmag

/-! ## Commands -/

/-- A CTRL write with a reserved command decodes to the row of its range (R161). -/
theorem decode_ctrlWord_reserved (lo : BitVec 2) {cmd : BitVec 4} (ign : BitVec 28) (reserved : 4 ≤ cmd.toNat) :
    Sys2Proof.decode (ctrlWord lo cmd ign) = .ctrlRsvd47 lo cmd ign
      ∨ Sys2Proof.decode (ctrlWord lo cmd ign) = .ctrlRsvd8F lo cmd ign := by
  by_cases low : cmd.toNat ≤ 7
  · exact .inl (decode_encode (i := .ctrlRsvd47 lo cmd ign) (by simp [Instr.wellFormed, reserved, low]))
  · exact .inr (decode_encode (i := .ctrlRsvd8F lo cmd ign) (decide_eq_true (by omega)))

/-- Settles O14: the decoder inverts the word of each command, and a command is accepted in IDLE and ignored elsewhere. -/
theorem ctrlWriteFollowsItsCommand : Obligations.CtrlWriteFollowsItsCommand := by
  refine ⟨fun lo cmd ign => ⟨?_, ?_, ?_, ?_, decode_ctrlWord_reserved lo ign⟩, fun s lo ign =>
    ⟨exec_keep rfl s, fun _ => exec_eq_apply _ s, fun _ => exec_eq_apply _ s, fun busy => ?_, fun idle => ?_⟩⟩
  · rintro rfl
    exact decode_encode (i := .nop lo ign) rfl
  · rintro rfl
    exact decode_encode (i := .measure lo ign) rfl
  · rintro rfl
    exact decode_encode (i := .measureLegacy lo ign) rfl
  · rintro rfl
    exact decode_encode (i := .decode lo ign) rfl
  · exact ⟨congrArg _ (command_busy _ busy), congrArg _ (command_busy _ busy), congrArg _ (command_busy _ busy)⟩
  · exact ⟨congrArg _ (command_idle _ idle), congrArg _ (command_idle _ idle), congrArg _ (command_idle _ idle)⟩

/-! ## STATUS and CONFIG writes -/

/-- Settles O17: the engine sets DONE over what the acknowledgement leaves of it, and RESULT only when it finishes. -/
theorem statusWriteAcknowledges : Obligations.StatusWriteAcknowledges := by
  refine fun s lo data => ⟨exec_eq_apply _ s, fun run p => ⟨_, step_of_presents run rfl p, ?_⟩⟩
  have half : (instrAction (.wrStatus lo data)).apply (beginCycle s) = acknowledge data (beginCycle s) := rfl
  have done := engineStep_done s (acknowledge data (beginCycle s))
  obtain ⟨cmderr, _, _⟩ := engineStep_keeps s (acknowledge data (beginCycle s))
  rw [half]
  refine ⟨?_, cmderr, fun goesOn => ⟨(engineStep_result_of_not_finishes goesOn _).1, fun cleared => ?_⟩⟩
  · rw [clockEdge_done, done]
    simp [clrDone]
  · have lowered : (engineStep s (acknowledge data (beginCycle s))).done = false := by
      rw [← Bool.not_eq_true, done]
      simp [goesOn, clrDone, cleared]
    rw [irq, clockEdge_done, lowered, Bool.false_and]

/-- No rule of the engine writes CONFIG. -/
theorem engineStep_config (s h : State) :
    (engineStep s h).cfgIe = h.cfgIe ∧ (engineStep s h).cfgPace = h.cfgPace := by
  rcases engineStep_cases s h with ⟨_, _, _, _, _, e⟩ | ⟨_, _, e⟩ | ⟨_, w, e⟩ | ⟨_, _, e⟩
  · simp only [e, and_self]
  · obtain ⟨_, _, _, _, _, _, e', _⟩ := captureBit_fields s h
    simp only [e, e', and_self]
  · simp only [e, waitTimeout_cfgIe, waitTimeout_cfgPace, and_self]
  · obtain ⟨_, _, _, _, _, _, e', _⟩ := decodeStep_fields s h
    simp only [e, e', finish_cfgIe, finish_cfgPace, and_self]

theorem bit_toNat (b : Bool) : (bit b).toNat = b.toNat := BitVec.toNat_ofBool b

/-- CONFIG is its two bits (R160). -/
theorem configWord_toNat (s : State) : (readValue s .config).toNat = s.cfgIe.toNat + 2 * s.cfgPace.toNat := by
  rw [readValue, toNat_append_eq_add, toNat_append_eq_add, bit_toNat, bit_toNat, BitVec.toNat_ofNat]
  omega

/-- Settles O18: the engine writes neither CONFIG nor PACE_L. -/
theorem configWriteStoresItsTwoBits : Obligations.ConfigWriteStoresItsTwoBits := by
  refine fun s lo data => ⟨⟨_, exec_eq_apply _ s, rfl, ?_⟩, fun run p => ⟨_, step_of_presents run rfl p, ?_⟩⟩
  · rw [configWord_toNat]
    simp only [instrAction, HostAction.apply, dataIe, dataPace, BitVec.getLsbD, Nat.toNat_testBit]
    omega
  · obtain ⟨ie, pace⟩ := engineStep_config s ((instrAction (.wrConfig lo data)).apply (beginCycle s))
    obtain ⟨_, _, paceL⟩ := engineStep_keeps s ((instrAction (.wrConfig lo data)).apply (beginCycle s))
    exact ⟨ie, pace, paceL, congrArg (_ && ·) ie⟩

/-! ## FRAME writes -/

theorem frameWithHi_toNat (f : Frame) (data : Word) :
    (frameWithHi f data).toNat = data.toNat % 2 ^ 8 * 2 ^ 32 + f.toNat % 2 ^ 32 := by
  rw [frameWithHi, toNat_append_eq_add, BitVec.extractLsb'_toNat, BitVec.extractLsb'_toNat, Nat.shiftRight_zero,
    Nat.shiftRight_zero, Nat.mul_comm]

theorem frameWithLo_toNat (f : Frame) (data : Word) :
    (frameWithLo f data).toNat = f.toNat / 2 ^ 32 * 2 ^ 32 + data.toNat := by
  have upper := field0_toNat f
  rw [field0] at upper
  rw [frameWithLo, toNat_append_eq_add, upper, Nat.mul_comm]

/-- Settles O19: a host's write of FRAME is kept in IDLE and lost otherwise. -/
theorem frameWritesOnlyWhileIdle : Obligations.FrameWritesOnlyWhileIdle := by
  refine fun s lo data => ⟨fun busy => ?_, fun idle => ?_⟩
  · have lost (f : Frame) : hostWriteFrame f s = s := if_neg busy
    exact ⟨congrArg _ (lost _), congrArg _ (lost _)⟩
  · have written (f : Frame) : hostWriteFrame f s = { s with frame := f } := if_pos idle
    exact ⟨⟨_, congrArg _ (written _), frameWithHi_toNat s.frame data⟩,
      ⟨_, congrArg _ (written _), frameWithLo_toNat s.frame data⟩⟩

/-! ## The registers as numbers -/

/-- The register of an offset is that of every offset in its word (R54). -/
theorem regAt_congr {off off' : BitVec 6} (same : off.toNat / 4 = off'.toNat / 4) : regAt off = regAt off' := by
  rw [regAt, regAt, offReg_toNat, offReg_toNat, same]

theorem regAt_unmapped {off : BitVec 6} (high : 11 ≤ off.toNat / 4) : regAt off = .unmapped := by
  revert off
  decide

theorem busy_eq_decide (s : State) : busy s = decide (s.st ≠ .idle) := (decide_not ..).symm

section
variable (s : State)

theorem statusWord_toNat : (readValue s .status).toNat = (decide (s.st ≠ .idle)).toNat + 2 * s.done.toNat
    + 4 * (resultCode s.result).toNat + 32 * s.cmderr.toNat + 64 * s.sync1.toNat + 128 * s.modeB.toNat := by
  rw [← busy_eq_decide, readValue, statusWord]
  simp only [toNat_append_eq_add, bit_toNat, BitVec.toNat_ofNat]
  omega

theorem frameHiWord_toNat : (readValue s .frameHi).toNat = s.frame.toNat / 2 ^ 32 := by
  have upper := field0_toNat s.frame
  rw [field0] at upper
  rw [readValue, toNat_append_eq_add, upper, BitVec.toNat_ofNat]
  omega

theorem frameLoWord_toNat : (readValue s .frameLo).toNat = s.frame.toNat % 2 ^ 32 := by
  rw [readValue, BitVec.extractLsb'_toNat, Nat.shiftRight_zero]

theorem tempRawWord_toNat : (readValue s .tempRaw).toNat = s.tmag.toNat + 2 ^ 15 * s.tsign.toNat := by
  rw [readValue, toNat_append_eq_add, toNat_append_eq_add, bit_toNat, BitVec.toNat_ofNat]
  omega

theorem temperatureWord_toNat : (readValue s .temperature).toNat
    = if s.tsign then (2 ^ 32 - s.tmag.toNat) % 2 ^ 32 else s.tmag.toNat := by
  have wide : (s.tmag.setWidth 32).toNat = s.tmag.toNat := BitVec.toNat_setWidth_of_le (by decide)
  rw [readValue, temperatureWord]
  split
  · rw [BitVec.zero_sub, BitVec.toNat_neg, wide]
  · exact wide

theorem checksumWord_toNat : (readValue s .checksum).toNat = s.rxsum.toNat + 256 * s.calcsum.toNat := by
  rw [readValue, toNat_append_eq_add, toNat_append_eq_add, BitVec.toNat_ofNat]
  omega

theorem progressWord_toNat : (readValue s .progress).toNat
    = s.bitcnt.toNat + 256 * (stateCode s.st).toNat + 4096 * (toStateCode s.toState).toNat := by
  rw [readValue]
  simp only [toNat_append_eq_add, BitVec.toNat_ofNat]
  omega

theorem paramWord_toNat : (readValue s .param).toNat = s.params.cyclesPerUs % 2 ^ 16 := by
  rw [readValue, toNat_append_eq_add, BitVec.toNat_ofNat, BitVec.toNat_ofNat]
  omega

end

/-! ## Reads -/

/-- The engine and the end of the cycle leave `bus_rdata` to the host's half. -/
@[simp] theorem clockEdge_busRdata (s h : State) : (clockEdge s h).busRdata = h.busRdata := by
  have handedOn := congrArg State.busRdata (clockEdge_withBus h.hostIn h.busRdata s h)
  exact handedOn

@[simp] theorem hostWriteFrame_busRdata (f : Frame) (s : State) : (hostWriteFrame f s).busRdata = s.busRdata := by
  rcases hostWriteFrame_cases f s with ⟨_, e⟩ | ⟨_, e⟩ <;> rw [e]

/-- Only a read writes `bus_rdata`. -/
theorem apply_busRdata {a : HostAction} (other : ∀ off, a ≠ .read off) (s : State) : (a.apply s).busRdata = s.busRdata := by
  cases a with
  | read off => exact absurd rfl (other off)
  | acquire bounded =>
    rcases command_cases (acceptAcquisition bounded) s with ⟨_, e⟩ | ⟨_, e⟩ <;> simp [HostAction.apply, e]
  | decode =>
    rcases command_cases acceptDecode s with ⟨_, e⟩ | ⟨_, e⟩ <;> simp [HostAction.apply, e]
  | writeFrameHi data => exact hostWriteFrame_busRdata _ s
  | writeFrameLo data => exact hostWriteFrame_busRdata _ s
  | _ => rfl

/-- Settles O11: each register is the sum of its fields, and the clock edge hands on the `bus_rdata` of the host's half. -/
theorem readReturnsTheRegister : Obligations.ReadReturnsTheRegister := by
  refine ⟨fun off data s => ⟨_, rfl, ?_⟩, fun s off data run p => ⟨_, step_of_presents run rfl p, ?_⟩,
    fun s run noRead => ⟨_, step_eq_clockEdge run, ?_⟩, fun s reset => ⟨_, step_reset reset, resetCycle_busRdata s⟩⟩
  · exact ⟨fun h => by rw [regAt_congr (off' := 0#6) h]; rfl,
      fun h => regAt_congr (off' := 4#6) h ▸ statusWord_toNat s,
      fun h => regAt_congr (off' := 8#6) h ▸ configWord_toNat s,
      fun h => regAt_congr (off' := 12#6) h ▸ frameHiWord_toNat s,
      fun h => regAt_congr (off' := 16#6) h ▸ frameLoWord_toNat s,
      fun h => regAt_congr (off' := 20#6) h ▸ humidityWord_toNat s,
      fun h => regAt_congr (off' := 24#6) h ▸ tempRawWord_toNat s,
      fun h => regAt_congr (off' := 28#6) h ▸ temperatureWord_toNat s,
      fun h => regAt_congr (off' := 32#6) h ▸ checksumWord_toNat s,
      fun h => regAt_congr (off' := 36#6) h ▸ progressWord_toNat s,
      fun h => regAt_congr (off' := 40#6) h ▸ paramWord_toNat s,
      fun h => by rw [regAt_unmapped h]; rfl⟩
  · have sameRegisters := readValue_withBus s.hostIn 0#32 s
    rw [clockEdge_busRdata]
    exact congrFun sameRegisters (regAt off)
  · have other (off : BitVec 6) : hostAction s ≠ .read off := fun e =>
      (asked_of_hostAction e).elim (noRead off)
    rw [clockEdge_busRdata, hostHalf, apply_busRdata other, beginCycle_busRdata]

end Sys2Proof.Machine
end

section
/-! The end of an operation and what its result leaves (spec/60_exceptions.md R201, R202). -/

namespace Sys2Proof.Machine

/-! ## The cycle in which an operation ends -/

/-- FRAME holds the capture, which SHIFT still holds, and all forty bits are in (R117). -/
structure CaptureComplete (s : State) : Prop where
  frame : s.frame = s.shift
  bitcnt : s.bitcnt.toNat = 40

/-- The three ways of a cycle of a running operation: it goes on towards the capture, completes it, or finishes. -/
theorem step_running_cases {s t : State} (run : Runs s) (running : s.st ≠ .idle) (e : step s = .next t) :
    (t.st ≠ .idle ∧ t.st ≠ .decode ∧ t.frame = s.frame) ∨ (t.st = .decode ∧ CaptureComplete t) ∨ Finishes s := by
  have frame (other : s.st ≠ .wait .bitF) : t.frame = s.frame := (step_noCapture run running other e).frame
  cases hs : s.st with
  | idle => exact absurd hs running
  | trigH0 => exact .inl (by simp [step_trigH0 run hs e, frame, hs])
  | trigOe => exact .inl (by simp [(step_trigOe run hs e).1, frame, hs])
  | trigLow => rcases step_trigLow run hs e with ⟨_, next⟩ | ⟨_, next, _⟩ <;> exact .inl (by simp [next, frame, hs])
  | trigH1 => exact .inl (by simp [(step_trigH1 run hs e).st, frame, hs])
  | decode => exact .inr (.inr (.inl hs))
  | wait w =>
    cases (step_wait run hs e).1 with
    | passed _ _ next same => exact .inl (by simp [next.st, same.frame])
    | captured _ _ bit =>
      by_cases last : s.bitcnt.toNat + 1 = 40
      · obtain ⟨captured, decodes⟩ := bit.last last
        exact .inr (.inl ⟨decodes, captured, (bit.bitcnt_toNat (by omega)).trans last⟩)
      · obtain ⟨kept, starts⟩ := bit.more last
        exact .inl (by simp [starts.st, kept])
    | expired noEdge late => exact .inr (.inr (.inr ⟨w, hs, noEdge, late⟩))
    | continued _ _ waits same => exact .inl (by simp [waits.st, same.frame])

/-- A running operation has ended after the cycle in which it finishes, and after no other (R201). -/
theorem step_idle_iff_finishes {s t : State} (run : Runs s) (running : s.st ≠ .idle) (e : step s = .next t) :
    t.st = .idle ↔ Finishes s := by
  refine ⟨fun idle => ?_, fun ends => (ended_of_finishes run ends e).st⟩
  rcases step_running_cases run running e with ⟨goesOn, _⟩ | ⟨decodes, _⟩ | ends
  · exact absurd idle goesOn
  · simp [decodes] at idle
  · exact ends

/-- An operation that finishes before its decode step has timed out in a wait, and has captured nothing (R112, R202). -/
theorem step_timedOut {s t : State} (run : Runs s) (ends : Finishes s) (other : s.st ≠ .decode) (e : step s = .next t) :
    ∃ w, s.st = .wait w ∧ TimedOut w t ∧ NoCapture s t := by
  rcases ends with decodes | ⟨w, hs, noEdge, late⟩
  · exact absurd decodes other
  · exact ⟨w, hs, (step_wait run hs e).1.expires noEdge late⟩

/-- Settles O38: only a timeout and the decode step lead to IDLE, and each names its result. -/
theorem operationsEndOnlyByFinish : Obligations.OperationsEndOnlyByFinish := by
  intro s run running
  have e := step_eq_clockEdge run
  refine ⟨_, e, step_idle_iff_finishes run running e, fun ends => ?_, fun _ decodes => ?_, fun ends other => ?_⟩
  · have ended := ended_of_finishes run ends e
    exact ⟨ended.done, by rw [busy, ended.st]; rfl⟩
  · obtain ⟨t, e', cycle, _⟩ := step_of_decode run decodes
    obtain rfl : clockEdge s (hostHalf s) = t := by simpa [e] using e'
    exact cycle.result
  · obtain ⟨w, hs, timedOut, _⟩ := step_timedOut run ends other e
    exact ⟨timedOut.result, by rw [timedOut.toState, hs]; rfl⟩

/-! ## The last cycle of an operation -/

/-- What holds of a running operation, and is kept by every cycle that does not end it, holds in its last cycle. -/
theorem endOfOperation_last {P : State → Prop}
    (keep : ∀ u v, Runs u → P u → step u = .next v → v.st ≠ .idle → P v) {n : Nat} {s t : State} (start : P s)
    (quiet : Undisturbed n s) (ends : endOfOperation n s = some t) :
    ∃ m u, m < n ∧ runFor m s = .next u ∧ Runs u ∧ P u ∧ step u = .next t ∧ t.st = .idle := by
  induction n generalizing s with
  | zero => cases ends
  | succ n ih =>
    obtain ⟨v, e, quiet'⟩ := quiet.step
    rw [endOfOperation, e] at ends
    by_cases idle : v.st = .idle
    · obtain rfl : v = t := by simpa [idle] using ends
      exact ⟨0, s, Nat.succ_pos n, rfl, quiet.runs, start, e, idle⟩
    · obtain ⟨m, u, before, toLast, last⟩ := ih (keep s v quiet.runs start e idle) quiet' (by simpa [idle] using ends)
      exact ⟨m + 1, u, Nat.succ_lt_succ before, (runFor_succ e).trans toLast, last⟩

/-- The acquisition that ran in `s`, before its decode step, still runs in `u`: FRAME is untouched, or the decode step is
next and FRAME is the capture (R33). -/
structure Acquiring (s u : State) : Prop where
  inv : Inv u
  running : u.st ≠ .idle
  kept : Kept s u
  frame : (u.st ≠ .decode ∧ u.frame = s.frame) ∨ (u.st = .decode ∧ CaptureComplete u)

theorem Acquiring.of_step {s u v : State} (run : Runs u) (acquiring : Acquiring s u) (e : step u = .next v)
    (goesOn : v.st ≠ .idle) : Acquiring s v := by
  have more : ¬ Finishes u := mt (step_idle_iff_finishes run acquiring.running e).2 goesOn
  have inv := everyStepKeepsTheInvariant u v acquiring.inv e
  rcases acquiring.frame with ⟨other, frame⟩ | ⟨decodes, _⟩
  · have kept := acquiring.kept.trans (step_kept run acquiring.running other e)
    rcases step_running_cases run acquiring.running e with ⟨_, other', same⟩ | complete | ends
    · exact ⟨inv, goesOn, kept, .inl ⟨other', same.trans frame⟩⟩
    · exact ⟨inv, goesOn, kept, .inr complete⟩
    · exact absurd ends more
  · exact absurd (.inl decodes) more

/-! ## What each result leaves -/

/-- The received checksum is the computed one (R144). -/
theorem checksumOk_iff (f : Frame) : checksumOk f = true ↔ wrappingSum f = field4 f := beq_iff_eq

/-- A DECODE presented to the idle block, whatever the host does in the second cycle (R140, R141). -/
theorem runFor_two_of_presents_decode {s : State} {lo : BitVec 2} {ign : BitVec 28} (quiet : Undisturbed 2 s)
    (idle : s.st = .idle) (presents : Presents s (.decode lo ign)) :
    ∃ t, runFor 2 s = .next t ∧ DecodeCycle s t ∧ t.toState = none := by
  have accepted : hostHalf s = acceptDecode (beginCycle s) := by
    rw [hostHalf, hostAction_of_presents rfl presents]
    exact command_idle _ idle
  have accept := step_eq_clockEdge quiet.runs
  rw [clockEdge, engineStep_idle _ idle, accepted] at accept
  obtain ⟨t, decode, cycle, toState⟩ := step_of_decode (quiet.of_step accept).runs rfl
  exact ⟨t, (runFor_succ accept).trans (runFor_succ decode), { cycle with noCapture := { cycle.noCapture with } }, toState⟩

/-- The two rows of a decode: OK with the measurement of the frame, or CHECKSUM with the old one (R147, R202). -/
theorem DecodeCycle.rows {s t : State} (cycle : DecodeCycle s t) :
    (t.result = .ok ∧ checksumOk s.frame = true ∧ t.hum = field0 s.frame ++ field1 s.frame
        ∧ t.tsign = (field2 s.frame).getLsbD 7 ∧ t.tmag = (field2 s.frame).extractLsb' 0 7 ++ field3 s.frame)
      ∨ (t.result = .checksum ∧ checksumOk s.frame = false ∧ t.hum = s.hum ∧ t.tsign = s.tsign ∧ t.tmag = s.tmag) := by
  cases checksum : checksumOk s.frame with
  | true =>
    obtain ⟨result, measured⟩ := cycle.onMatch checksum
    exact .inl ⟨result, rfl, measured⟩
  | false =>
    obtain ⟨result, kept⟩ := cycle.onMismatch checksum
    exact .inr ⟨result, rfl, kept⟩

/-- Settles O39: in the last cycle of an acquisition a wait times out, or the decode step runs on the capture; that of a
DECODE is the decode step. -/
theorem eachResultLeavesWhatItsRowSays : Obligations.EachResultLeavesWhatItsRowSays := by
  refine ⟨fun n s t inv running other noReset ends => ?_, fun s lo ign run idle presents noReset => ?_⟩
  · have start : Acquiring s s := ⟨inv, running, .refl s, .inl ⟨other, rfl⟩⟩
    obtain ⟨m, u, before, toLast, run, last, e, idle⟩ :=
      endOfOperation_last (fun _ _ run acquiring => acquiring.of_step run) start ⟨noReset, inv.result_legal⟩ ends
    have finishes : Finishes u := (step_idle_iff_finishes run last.running e).1 idle
    refine ⟨idle, (ended_of_finishes run finishes e).done, ?_⟩
    rcases last.frame with ⟨other', frame⟩ | ⟨decodes, capture⟩
    · obtain ⟨w, hs, timedOut, same⟩ := step_timedOut run finishes other' e
      have kept := last.kept.trans (step_kept run last.running other' e)
      exact .inr (.inl ⟨timedOut.result,
        ⟨m, u, w, before, toLast, e, hs, timedOut.toState, same.bitcnt, last.inv.wait_bits w hs⟩,
        same.frame.trans frame, kept.rxsum, kept.calcsum, kept.hum, kept.tsign, kept.tmag⟩)
    · obtain ⟨t', e', cycle, toState⟩ := step_of_decode run decodes
      obtain rfl : t = t' := by simpa [e] using e'
      obtain ⟨shift, frame, bitcnt⟩ := cycle.noCapture
      obtain ⟨_, _, clear⟩ := last.inv.busy_clear last.running
      have unnamed : t.toState = none := toState.trans clear
      have bits : t.bitcnt.toNat = 40 := by rw [bitcnt, capture.bitcnt]
      have captured : t.frame = t.shift := by rw [frame, shift, capture.frame]
      have rxsum := cycle.rxsum
      have calcsum := cycle.calcsum
      have rows := cycle.rows
      rw [← frame] at rxsum calcsum rows
      rcases rows with ⟨ok, matched, measured⟩ | ⟨mismatch, mismatched, hum, tsign, tmag⟩
      · exact .inl ⟨ok, unnamed, bits, captured, matched, rxsum, calcsum.trans ((checksumOk_iff _).1 matched), measured⟩
      · exact .inr (.inr ⟨mismatch, unnamed, bits, captured, mismatched, rxsum, calcsum, hum.trans last.kept.hum,
          tsign.trans last.kept.tsign, tmag.trans last.kept.tmag⟩)
  · obtain ⟨t, twoCycles, cycle, unnamed⟩ := runFor_two_of_presents_decode ⟨noReset, run.2⟩ idle presents
    exact ⟨t, twoCycles, cycle.st, cycle.done, unnamed, cycle.noCapture.frame, cycle.noCapture.bitcnt, cycle.rxsum,
      cycle.calcsum, cycle.rows⟩

end Sys2Proof.Machine
end

section
/-! The flags of a cycle: an ignored command, the interrupt, the conflicts of a cycle and the quiet block
(spec/60_exceptions.md R206, R209, R210, R218). -/

namespace Sys2Proof.Machine

/-! ## The engine does not look at CMDERR and CONFIG -/

/-- The state after a write to some of CMDERR, CFG_IE and CFG_PACE; `id` keeps a flag. -/
def State.mapFlags (cmderr ie pace : Bool → Bool) (s : State) : State :=
  { s with cmderr := cmderr s.cmderr, cfgIe := ie s.cfgIe, cfgPace := pace s.cfgPace }

section
variable (cmderr ie pace : Bool → Bool) (s h : State)

theorem trigLowStep_mapFlags :
    trigLowStep s (h.mapFlags cmderr ie pace) = (trigLowStep s h).mapFlags cmderr ie pace := by
  unfold trigLowStep
  split <;> rfl

theorem captureBit_mapFlags : captureBit s (h.mapFlags cmderr ie pace) = (captureBit s h).mapFlags cmderr ie pace := by
  simp only [captureBit]
  split <;> rfl

theorem decodeStep_mapFlags : decodeStep s (h.mapFlags cmderr ie pace) = (decodeStep s h).mapFlags cmderr ie pace := by
  unfold decodeStep
  split <;> rfl

theorem edgeWaitStep_mapFlags (w : EdgeWait) :
    edgeWaitStep w s (h.mapFlags cmderr ie pace) = (edgeWaitStep w s h).mapFlags cmderr ie pace := by
  unfold edgeWaitStep
  split
  · cases w with
    | bitF => exact captureBit_mapFlags cmderr ie pace s h
    | _ => rfl
  · split <;> rfl

theorem engineStep_mapFlags :
    engineStep s (h.mapFlags cmderr ie pace) = (engineStep s h).mapFlags cmderr ie pace := by
  unfold engineStep
  cases s.st with
  | trigLow => exact trigLowStep_mapFlags cmderr ie pace s h
  | wait w => exact edgeWaitStep_mapFlags cmderr ie pace s h w
  | decode => exact decodeStep_mapFlags cmderr ie pace s h
  | _ => rfl

/-- The clock edge hands CMDERR and CONFIG on. -/
theorem clockEdge_mapFlags :
    clockEdge s (h.mapFlags cmderr ie pace) = (clockEdge s h).mapFlags cmderr ie pace := by
  rw [clockEdge, engineStep_mapFlags]
  rfl

end

/-! ## A cycle with no operation -/

/-- The cycle in which the host presents nothing instead. -/
theorem step_idlePorts {s : State} (legal : s.result ≠ .invalidFrame) :
    step { s with hostIn := idlePorts :: s.hostIn.tail } = .next (clockEdge s (beginCycle s)) := by
  have e := step_of_ports (p := idlePorts) s.hostIn.tail rfl legal (h := beginCycle s) rfl
  rw [e, beginCycle_busRdata, ← clockEdge_withBus s.hostIn]
  rfl

/-- Settles O49: in IDLE neither the host nor the engine writes, and the end of the cycle writes SYNC and the inputs. -/
theorem idleIsQuiescent : Obligations.IdleIsQuiescent := by
  intro s run idle quiet
  rw [step_eq_clockEdge run, ← hostEffect_iff.1 (.nothing quiet), clockEdge, engineStep_idle _ idle]
  rfl

/-! ## An ignored command -/

theorem hostHalf_of_ignoresCommand {s : State} (ignored : IgnoresCommand s) : hostHalf s = ignoreCommand (beginCycle s) := by
  rcases (ignoresCommand_iff s).1 ignored with ⟨busy, command⟩ | reserved
  · cases e : hostAction s with
    | acquire bounded => rw [hostHalf, e]; exact command_busy _ busy
    | decode => rw [hostHalf, e]; exact command_busy _ busy
    | _ => simp [e, HostAction.isCommand] at command
  · rw [hostHalf, reserved, HostAction.apply]

/-- Settles O40: an ignored command writes CMDERR alone, which the engine does not look at. -/
theorem ignoredCommandSetsOnlyCmderr : Obligations.IgnoredCommandSetsOnlyCmderr := by
  intro s run ignored
  refine ⟨_, step_idlePorts run.2, ?_⟩
  rw [step_eq_clockEdge run, hostHalf_of_ignoresCommand ignored]
  exact congrArg _ (clockEdge_mapFlags (fun _ => true) id id s (beginCycle s))

/-! ## The interrupt -/

/-- Only a CONFIG write writes CFG_IE (R164). -/
theorem apply_cfgIe (a : HostAction) (s : State) :
    (a.apply s).cfgIe = s.cfgIe ∨ ∃ data, a = .configure data ∧ (a.apply s).cfgIe = dataIe data := by
  cases a with
  | configure data => exact .inr ⟨data, rfl, rfl⟩
  | acquire bounded =>
    rcases command_cases (acceptAcquisition bounded) s with ⟨_, e⟩ | ⟨_, e⟩ <;> simp [HostAction.apply, e]
  | decode =>
    rcases command_cases acceptDecode s with ⟨_, e⟩ | ⟨_, e⟩ <;> simp [HostAction.apply, e]
  | writeFrameHi data =>
    rcases hostWriteFrame_cases (frameWithHi s.frame data) s with ⟨_, e⟩ | ⟨_, e⟩ <;> simp [HostAction.apply, e]
  | writeFrameLo data =>
    rcases hostWriteFrame_cases (frameWithLo s.frame data) s with ⟨_, e⟩ | ⟨_, e⟩ <;> simp [HostAction.apply, e]
  | _ => exact .inl rfl

/-- CFG_IE falls only by a CONFIG write that clears it (R41, R164). -/
theorem step_cfgIe_falls {s t : State} (running : s.ports.rst = false) (e : step s = .next t) (on : s.cfgIe = true)
    (off : t.cfgIe = false) : ∃ lo data, Presents s (.wrConfig lo data) ∧ data.getLsbD 0 = false := by
  have fromHost : t.cfgIe = (hostHalf s).cfgIe := by
    rw [step_next_running running e]
    exact (engineStep_config s (hostHalf s)).1
  rcases apply_cfgIe (hostAction s) (beginCycle s) with kept | ⟨data, action, written⟩
  · exact absurd (fromHost.trans kept) (by simp [off, on])
  · obtain ⟨lo, presents⟩ := asked_of_hostAction action
    exact ⟨lo, data, presents, (fromHost.trans written).symm.trans off⟩

/-- DONE falls only by an accepted command or a STATUS write that clears it (R38). -/
theorem step_done_falls {s t : State} (run : Runs s) (e : step s = .next t) (on : s.done = true) (off : t.done = false) :
    Accepts s ∨ ∃ lo data, Presents s (.wrStatus lo data) ∧ data.getLsbD 1 = true := by
  obtain ⟨_, _, sticky⟩ := doneIsStickyUntilAcknowledged
  obtain ⟨u, e', set⟩ := sticky s run
  obtain rfl : t = u := by simpa [e] using e'
  refine Decidable.byContradiction fun neither => ?_
  obtain ⟨unaccepted, unwritten⟩ := not_or.1 neither
  simp [set.2 (.inr ⟨on, unaccepted, unwritten⟩)] at off

theorem irq_iff (s : State) : irq s = true ↔ s.done = true ∧ s.cfgIe = true := Bool.and_eq_true_iff

/-- Settles O44: `irq` falls with DONE or with CFG_IE. -/
theorem interruptIsALevel : Obligations.InterruptIsALevel := by
  refine ⟨irq_iff, fun s run ends => ?_, fun s t e high low => ?_⟩
  · have e := step_eq_clockEdge run
    exact ⟨_, e, by rw [irq, (ended_of_finishes run ends e).done, Bool.true_and]⟩
  · obtain ⟨done, ie⟩ := (irq_iff s).1 high
    cases reset : s.ports.rst with
    | true => exact .inl rfl
    | false =>
      rcases Bool.and_eq_false_iff.1 low with fell | fell
      · exact .inr ((step_done_falls (runs_of_step reset e) e done fell).imp_right .inl)
      · exact .inr (.inr (.inr (step_cfgIe_falls reset e ie fell)))

/-! ## Conflicts within a cycle -/

/-- An ignored command sets CMDERR (R209). -/
theorem step_cmderr_of_ignoresCommand {s t : State} (run : Runs s) (ignored : IgnoresCommand s) (e : step s = .next t) :
    t.cmderr = true := by
  obtain ⟨u, _, e'⟩ := ignoredCommandSetsOnlyCmderr s run ignored
  rw [e] at e'
  cases e'
  rfl

theorem not_idle_of_finishes {s : State} (ends : Finishes s) : s.st ≠ .idle := fun idle =>
  not_finishes_of_st idle nofun nofun ends

/-- Settles O45: a reset looks at nothing else, `finish` sets DONE over the host's half, a finishing operation still runs,
and the engine does not look at CONFIG. -/
theorem sameCycleConflicts : Obligations.SameCycleConflicts := by
  refine ⟨fun s reset => ?_, fun s lo data run ends _ _ => ?_, fun s lo ign run ends presents => ?_,
    fun s lo data run presents => ?_⟩
  · exact ⟨_, step_reset reset, rfl, rfl, rfl, step_reset rfl⟩
  · have e := step_eq_clockEdge run
    exact ⟨_, e, (ended_of_finishes run ends e).done⟩
  · have e := step_eq_clockEdge run
    have ended := ended_of_finishes run ends e
    have ignored : IgnoresCommand s := .inl ⟨not_idle_of_finishes ends, lo, ign, presents⟩
    exact ⟨_, e, step_cmderr_of_ignoresCommand run ignored e, ended.st, ended.done⟩
  · exact ⟨_, _, step_of_presents run rfl presents, step_idlePorts run.2,
      clockEdge_mapFlags id (fun _ => dataIe data) (fun _ => dataPace data) s (beginCycle s)⟩

end Sys2Proof.Machine
end

section
/-! The reset (spec/70_reset_and_hazards.md R230 to R234, spec/00_scope.md R7): one cycle of it, a reset held, and what the
host sees of the block after it. -/

namespace Sys2Proof.Machine

/-! ## The reset action -/

/-- Settles O8: the step is the reset cycle, field by field. -/
theorem resetCycleDoesOnlyTheResetAction : Obligations.ResetCycleDoesOnlyTheResetAction := fun s reset =>
  ⟨resetCycle s, step_reset reset, by simp⟩

theorem inv_resetWith {p : Params} (legal : legalParams p = true) : Inv (State.resetWith p) where
  params_legal := legal
  tcnt_fits := Nat.zero_le _
  pcnt_fits := Nat.zero_le _
  bitcnt_le := by simp
  shift_fits := by simp
  result_legal := by simp
  busy_clear := by simp
  done_result := by simp
  timeout_state := by simp
  timeout_bounded := by simp
  trig_count := by simp
  no_bits_yet := by simp [beforeBits]
  wait_bits := by simp
  wait_bound := by simp

/-- Settles O51: the reset state meets the invariant for legal parameters, and the implementation's are legal. -/
theorem resetMeetsTheInvariant : Obligations.ResetMeetsTheInvariant :=
  ⟨fun _ legal => inv_resetWith legal, inv_resetWith implParams_legal⟩

/-! ## A reset held -/

theorem ports_rst_of_take {n : Nat} {s : State} (listed : n + 1 ≤ s.hostIn.length)
    (held : ∀ p ∈ s.hostIn.take (n + 1), p.rst = true) : s.ports.rst = true := by
  cases ports : s.hostIn with
  | nil =>
    rw [ports] at listed
    exact absurd listed (Nat.not_succ_le_zero n)
  | cons p ps =>
    rw [ports_cons ports]
    exact held p (by rw [ports, List.take_succ_cons]; exact List.mem_cons_self)

theorem mem_take_succ_of_mem_take_tail {n : Nat} {p : HostPorts} {ps : List HostPorts} (mem : p ∈ ps.tail.take n) :
    p ∈ ps.take (n + 1) := by
  cases ps with
  | nil =>
    rw [List.tail_nil, List.take_nil] at mem
    exact absurd mem List.not_mem_nil
  | cons q ps => exact List.mem_cons_of_mem q mem

/-- Settles O9, by induction on the cycles: the first leaves the reset state, and the later ones start from it. -/
theorem resetHeldKeepsTheResetState : Obligations.ResetHeldKeepsTheResetState := by
  intro n s pos listed held
  induction n generalizing s with
  | zero => exact absurd pos (Nat.lt_irrefl 0)
  | succ n ih =>
    rw [runFor_succ (step_reset (ports_rst_of_take listed held)), ← List.drop_tail, ← List.drop_tail]
    cases Nat.eq_zero_or_pos n with
    | inl last =>
      subst last
      rfl
    | inr more =>
      have listed' : n ≤ (resetCycle s).hostIn.length := by
        rw [resetCycle_hostIn, List.length_tail]
        exact Nat.le_sub_one_of_lt listed
      rw [ih (resetCycle s) more listed' fun p mem => held p (mem_take_succ_of_mem_take_tail mem), resetCycle_cycle,
        Nat.add_right_comm, Nat.add_assoc]
      rfl

/-! ## The idle block with no operation -/

/-- Two states that agree but for SYNC, `bus_rdata` and the inputs. -/
def LineSide (s t : State) : Prop :=
  t = { s with
    sync0 := t.sync0, sync1 := t.sync1, busRdata := t.busRdata
    hostIn := t.hostIn, lineIn := t.lineIn, cycle := t.cycle }

/-- With no operation presented the idle block stays as it is, and the levels ahead pass through SYNC (R23, R218). -/
theorem runFor_idle {n : Nat} {level : Bool} {s : State} (idle : s.st = .idle) (legal : s.result ≠ .invalidFrame)
    (silent : s.hostIn = []) (ahead : (s.sync1 :: s.sync0 :: s.lineIn)[n]? = some level) :
    ∃ t, runFor n s = .next t ∧ LineSide s t ∧ t.sync1 = level := by
  induction n generalizing s with
  | zero => exact ⟨s, rfl, rfl, Option.some.inj ahead⟩
  | succ n ih =>
    have run : Runs s := ⟨by rw [ports_nil silent, idlePorts], legal⟩
    have quiet : PresentsNothing s := by rw [PresentsNothing, ports_nil silent]; rfl
    have shifted : (s.sync0 :: s.pinIn :: s.lineIn.tail)[n]? = some level := by
      replace ahead : (s.sync0 :: s.lineIn)[n]? = some level := ahead
      obtain ⟨within, rfl⟩ := List.getElem?_eq_some_iff.1 ahead
      exact List.prefix_iff_getElem?.1 (List.cons_prefix_cons.2 ⟨rfl, lineIn_prefix s⟩) n within
    obtain ⟨t, rest, side, sampled⟩ := ih (s := { s with
      sync0 := s.pinIn, sync1 := s.sync0, busRdata := 0#32
      hostIn := s.hostIn.tail, lineIn := s.lineIn.tail, cycle := s.cycle + 1 }) idle legal
      (congrArg List.tail silent) shifted
    exact ⟨t, (runFor_succ (idleIsQuiescent s run idle quiet)).trans rest, side, sampled⟩

section
variable {s t : State}

/-- Of the registers STATUS alone shows SYNC (R160). -/
theorem readValue_of_lineSide (side : LineSide s t) (r : Reg) (other : r ≠ .status) : readValue t r = readValue s r := by
  rw [side]
  cases r with
  | status => exact absurd rfl other
  | _ => rfl

theorem status_of_lineSide (side : LineSide s t) :
    readValue t .status = readValue { s with sync1 := t.sync1 } .status := by
  rw [side]
  rfl

theorem outputs_of_lineSide (side : LineSide s t) : t.st = s.st ∧ irq t = irq s ∧ pinOe t = pinOe s := by
  rw [side]
  exact ⟨rfl, rfl, rfl⟩

end

/-! ## The block after reset -/

/-- After `n` cycles SYNC[1] is `pin_in` of two cycles before, or its reset value (R23). -/
theorem delayed_getElem? {levels : List Bool} {n : Nat} (long : n ≤ levels.length) :
    (false :: false :: levels)[n]? = some (decide (2 ≤ n ∧ levels[n - 2]? = some true)) := by
  match n with
  | 0 => rfl
  | 1 => rfl
  | k + 2 =>
    have inside : k < levels.length := by omega
    simp [inside]

/-- Of STATUS the reset state shows LINE alone (R234). -/
theorem status_resetWith (p : Params) (level : Bool) :
    readValue { State.resetWith p with sync1 := level } .status = if level then 0x40#32 else 0#32 := by
  cases level <;> simp [readValue, statusWord, busy, resultCode, bit]

theorem config_resetWith (p : Params) : readValue (State.resetWith p) .config = 2#32 := by
  simp [readValue, bit]

/-- Of the other registers PARAM alone is not 0 after reset (R234). -/
theorem readValue_resetWith (p : Params) {r : Reg} (config : r ≠ .config) (param : r ≠ .param) :
    readValue (State.resetWith p) r = 0#32 := by
  cases r with
  | config => exact absurd rfl config
  | param => exact absurd rfl param
  | status => exact status_resetWith p false
  | temperature => simp [readValue, temperatureWord]
  | progress => simp [readValue, toStateCode, stateCode]
  | tempRaw => simp [readValue, bit]
  | _ => simp [readValue]

/-- Settles O10: the block in IDLE differs from the reset state in SYNC and the inputs alone, and FRAME = 0, which DECODE
takes, has a matching checksum. -/
theorem stateAfterResetAsTheHostSeesIt : Obligations.StateAfterResetAsTheHostSeesIt := by
  intro p legal
  refine ⟨fun levels n long => ?_, fun lo ign => ?_⟩
  · have delayed := delayed_getElem? long
    obtain ⟨t, run, side, sampled⟩ := runFor_idle (s := { State.resetWith p with lineIn := levels }) rfl nofun rfl delayed
    replace side : LineSide (State.resetWith p) t := side
    have zero (r : Reg) (status : r ≠ .status) (config : r ≠ .config) (param : r ≠ .param) : readValue t r = 0#32 :=
      (readValue_of_lineSide side r status).trans (readValue_resetWith p config param)
    have line := (status_of_lineSide side).trans (status_resetWith p t.sync1)
    simp only [sampled, decide_eq_true_eq] at line
    have param : (readValue t .param).toNat = p.cyclesPerUs := by
      obtain ⟨_, fits, _⟩ := (legalParams_iff p).1 legal
      rw [readValue_of_lineSide side .param nofun, paramWord_toNat]
      exact Nat.mod_eq_of_lt (Nat.lt_succ_of_le fits)
    obtain ⟨idle, interrupt, output⟩ := outputs_of_lineSide side
    exact ⟨t, run, idle, line, (readValue_of_lineSide side .config nofun).trans (config_resetWith p),
      zero .frameHi nofun nofun nofun, zero .frameLo nofun nofun nofun, zero .humidity nofun nofun nofun,
      zero .tempRaw nofun nofun nofun, zero .temperature nofun nofun nofun, zero .checksum nofun nofun nofun,
      zero .progress nofun nofun nofun, param, interrupt, output⟩
  · have noReset : NoReset 2 { State.resetWith p with hostIn := [requestPorts (encode (.decode lo ign))] } :=
      fun _ mem => List.mem_singleton.1 mem ▸ rfl
    obtain ⟨t, run, cycle, _⟩ := runFor_two_of_presents_decode ⟨noReset, nofun⟩ rfl
      (portsRequest_requestPorts (encode (.decode lo ign)))
    obtain ⟨ok, hum, tsign, tmag⟩ : t.result = .ok ∧ t.hum = frameHum 0#40 ∧ t.tsign = frameTsign 0#40
      ∧ t.tmag = frameTmag 0#40 := cycle.onMatch (by decide : checksumOk 0#40 = true)
    refine ⟨t, run, ok, cycle.done, ?_, ?_⟩
    · rw [readValue, hum]
      decide
    · rw [readValue, temperatureWord, tsign, tmag]
      decide

end Sys2Proof.Machine
end

section
/-! The host beside a running operation (spec/70_reset_and_hazards.md R246, R254): every rule of the
engine writes the same elements whatever stands on the host's side. -/

namespace Sys2Proof.Machine

section
variable {s t u v h k : State}

theorem hostSide_symm (side : HostSide s t) : HostSide t s := by
  rw [HostSide, side]

theorem hostSide_trans (first : HostSide s t) (second : HostSide t u) : HostSide s u :=
  Eq.trans second (by rw [first])

/-! ## The engine -/

theorem trigLowStep_hostSide (side : HostSide h k) : HostSide (trigLowStep s h) (trigLowStep s k) := by
  rw [side]
  unfold trigLowStep
  split <;> rfl

theorem captureBit_hostSide (side : HostSide h k) : HostSide (captureBit s h) (captureBit s k) := by
  rw [side]
  simp only [captureBit]
  split <;> rfl

theorem edgeWaitStep_hostSide (w : EdgeWait) (side : HostSide h k) : HostSide (edgeWaitStep w s h) (edgeWaitStep w s k) := by
  unfold edgeWaitStep
  split
  · cases w with
    | bitF => exact captureBit_hostSide side
    | _ => rw [side]; rfl
  · rw [side]
    split <;> rfl

theorem decodeStep_hostSide (side : HostSide h k) : HostSide (decodeStep s h) (decodeStep s k) := by
  rw [side]
  unfold decodeStep
  split <;> rfl

/-- A rule of the engine takes nothing from the host's side of the state it writes into. -/
theorem engineStep_hostSide (side : HostSide h k) : HostSide (engineStep s h) (engineStep s k) := by
  unfold engineStep
  cases s.st with
  | idle => exact side
  | trigLow => exact trigLowStep_hostSide side
  | wait w => exact edgeWaitStep_hostSide w side
  | decode => exact decodeStep_hostSide side
  | _ => rw [side]; rfl

/-! ## A cycle -/

theorem clockEdge_hostSide (start : HostSide s u) (side : HostSide h k) : HostSide (clockEdge s h) (clockEdge u k) := by
  have engine : HostSide (engineStep s h) (engineStep u k) := by
    rw [← engineStep_of_hostSide start]
    exact engineStep_hostSide side
  rw [clockEdge, clockEdge, engine, start]
  rfl

/-- Whatever each host does, the next states agree but for its side. -/
theorem step_hostSide (running : s.st ≠ .idle) (side : HostSide s u) (run : Runs s) (run' : Runs u)
    (e : step s = .next t) (e' : step u = .next v) : HostSide t v := by
  obtain ⟨h, host, rfl⟩ := step_busy run running e
  obtain ⟨k, host', rfl⟩ := step_busy run' (by rwa [hostSide_st side]) e'
  exact clockEdge_hostSide side (hostSide_trans (hostSide_symm host) (hostSide_trans side host'))

theorem finishes_of_hostSide (side : HostSide s u) (ends : Finishes s) : Finishes u := by
  rw [side]
  exact ends

end

/-! ## To the end of the operation -/

theorem endOfOperation_hostSide {n : Nat} {s u t : State} (running : s.st ≠ .idle) (side : HostSide s u)
    (quiet : Undisturbed n s) (quiet' : Undisturbed n u) (ends : endOfOperation n s = some t) :
    ∃ v, endOfOperation n u = some v ∧ HostSide t v ∧ t.done = true ∧ v.done = true := by
  induction n generalizing s u with
  | zero => cases ends
  | succ n ih =>
    obtain ⟨s', e, next⟩ := quiet.step
    obtain ⟨u', e', next'⟩ := quiet'.step
    have side' := step_hostSide running side quiet.runs quiet'.runs e e'
    rw [endOfOperation, e] at ends
    rw [endOfOperation, e']
    by_cases idle : s'.st = .idle
    · obtain rfl : s' = t := by simpa [idle] using ends
      have finishes := (step_idle_iff_finishes quiet.runs running e).1 idle
      have ended' := ended_of_finishes quiet'.runs (finishes_of_hostSide side finishes) e'
      exact ⟨u', by simp [ended'.st], side', (ended_of_finishes quiet.runs finishes e).done, ended'.done⟩
    · simp only [hostSide_st side', idle, if_false] at ends ⊢
      exact ih idle side' next next' ends

/-- Settles O48: for one cycle by the engine's rules, and to the end of the operation by induction on the cycles. -/
theorem hostDoesNotDisturbARunningOperation : Obligations.HostDoesNotDisturbARunningOperation := by
  refine ⟨fun s u running side run run' => ?_, fun n s u t running side legal noReset noReset' ends => ?_⟩
  · have e := step_eq_clockEdge run
    have e' := step_eq_clockEdge run'
    exact ⟨_, _, e, e', step_hostSide running side run run' e e', fun finishes =>
      ⟨(ended_of_finishes run finishes e).done, (ended_of_finishes run' (finishes_of_hostSide side finishes) e').done⟩⟩
  · exact endOfOperation_hostSide running side ⟨noReset, legal⟩ ⟨noReset', by rwa [hostSide_result side]⟩ ends

end Sys2Proof.Machine
end
